-- ==== Sys2Proof/Syntax.lean ====
section
/-! DEFINITION. The operations of the block: one constructor per row of spec/opcode_table.json (30_encoding.md R81).
No operation has an operand field; every operand is an implicit register or port (R82). -/

namespace Sys2Proof

/-- The ten sequencer operations (R81), in the order of their codes. -/
inductive Instr where
  /-- RESET: put every register into its reset state (46_sequencer.md R250) -/
  | reset
  /-- CALHOOK: invoke the calibration hook once (45_output.md R233) -/
  | calhook
  /-- MEASURE: measure one pulse of PWM_IN (40_sampler.md R105) -/
  | measure
  /-- DIRUPD: latch the effective direction if the gate is open (44_direction.md R210) -/
  | dirupd
  /-- ZRUN: update the consecutive-zero counter (42_zero_run.md R150) -/
  | zrun
  /-- FORCE0: perform the zero-force event (42_zero_run.md R151) -/
  | force0
  /-- ACCUM: add the sample to the window (41_averager.md R130) -/
  | accum
  /-- RETARGET: classify a new target and set up a jump or a ramp (43_ramp.md R170) -/
  | retarget
  /-- RTICK: advance the ramp to the cycle's time (43_ramp.md R176) -/
  | rtick
  /-- OUTWR: write the duty to PWM_OUT (45_output.md R230) -/
  | outwr
deriving DecidableEq, Repr

end Sys2Proof
end

