-- ==== Sys2Proof/Word.lean ====
section
/-! DEFINITION. The one bit-vector type of the block. The block has no data words: every register but the phase holds
an integer in a range (00_scope.md R10), and only the operation word is ever sliced as bits (R11, R80). -/

namespace Sys2Proof

/-- An operation word `op[3:0]`: always four bits, all of them the opcode (30_encoding.md R80). -/
abbrev OpWord := BitVec 4

end Sys2Proof
end

