-- ==== Sys2Proof/Decode.lean ====
section
/-! DEFINITION. The operation words: the decoder (total on four bits, 30_encoding.md R85), then the encoder written from
the same opcode map (R81), the trace syntax (R86) and the pseudo-operations (R87). -/

namespace Sys2Proof

/-- What a word names: one of the ten operations, or a reserved code by that name (R83, R85). -/
inductive Decoded where
  | op (i : Instr)
  | reserved
deriving DecidableEq, Repr

/-- R81, R83, R85: the opcode map. Codes 0xA to 0xF are reserved and name no operation. -/
def decodeWord (w : OpWord) : Decoded :=
  match w.toNat with
  | 0x0 => .op .reset
  | 0x1 => .op .calhook
  | 0x2 => .op .measure
  | 0x3 => .op .dirupd
  | 0x4 => .op .zrun
  | 0x5 => .op .force0
  | 0x6 => .op .accum
  | 0x7 => .op .retarget
  | 0x8 => .op .rtick
  | 0x9 => .op .outwr
  | _ => .reserved

/-- The operation a word names, or `none` where it is reserved. -/
def decode (w : OpWord) : Option Instr :=
  match decodeWord w with
  | .op i => some i
  | .reserved => none

/-- R81: the word of an operation. -/
def encode (i : Instr) : OpWord :=
  match i with
  | .reset => 0b0000
  | .calhook => 0b0001
  | .measure => 0b0010
  | .dirupd => 0b0011
  | .zrun => 0b0100
  | .force0 => 0b0101
  | .accum => 0b0110
  | .retarget => 0b0111
  | .rtick => 0b1000
  | .outwr => 0b1001

/-- The instruction the decoder reads from the bits `w` of an opcode-table row. The whole instruction is its low four
bits (R80); a number with a bit above them is no operation word, whatever `nbits` says. -/
def decodeTableWord (_nbits w : Nat) : Option Instr :=
  if w < 16 then decode (BitVec.ofNat 4 w) else none

/-- R86: the mnemonic of an operation, in upper case, as its characters. -/
def Instr.mnemonic (i : Instr) : List Char :=
  match i with
  | .reset => ['R', 'E', 'S', 'E', 'T']
  | .calhook => ['C', 'A', 'L', 'H', 'O', 'O', 'K']
  | .measure => ['M', 'E', 'A', 'S', 'U', 'R', 'E']
  | .dirupd => ['D', 'I', 'R', 'U', 'P', 'D']
  | .zrun => ['Z', 'R', 'U', 'N']
  | .force0 => ['F', 'O', 'R', 'C', 'E', '0']
  | .accum => ['A', 'C', 'C', 'U', 'M']
  | .retarget => ['R', 'E', 'T', 'A', 'R', 'G', 'E', 'T']
  | .rtick => ['R', 'T', 'I', 'C', 'K']
  | .outwr => ['O', 'U', 'T', 'W', 'R']

/-- The ten operations in the order of their codes (R81). -/
def allInstrs : List Instr :=
  [.reset, .calhook, .measure, .dirupd, .zrun, .force0, .accum, .retarget, .rtick, .outwr]

/-- The operation with a given mnemonic (R86). -/
def instrOfMnemonic (cs : List Char) : Option Instr := allInstrs.find? (fun i => i.mnemonic == cs)

/-- Whether a character separates words on a trace line (R86 does not list them: space and tab, assumption 11). -/
def isBlank (ch : Char) : Bool := ch == ' ' || ch == '\t'

/-- A trace line without its comment: the text before `;`, and before an `@` annotation, which "is a comment and changes
nothing" (R86), with the blanks around it removed. -/
def lineText (line : List Char) : List Char :=
  let code := line.takeWhile (fun ch => ch != ';' && ch != '@')
  ((code.dropWhile isBlank).reverse.dropWhile isBlank).reverse

/-- A trace (R86): one mnemonic a line, blank lines ignored; `none` where a line names no operation. -/
def readTrace : List (List Char) → Option (List Instr)
  | [] => some []
  | line :: rest =>
    match lineText line with
    | [] => readTrace rest
    | cs =>
      match instrOfMnemonic cs, readTrace rest with
      | some i, some is => some (i :: is)
      | _, _ => none

/-- R86: "a trace encodes to the sequence of words in order". -/
def encodeTrace (is : List Instr) : List OpWord := is.map encode

/-- The three operation strings one control cycle can be (R87, 46_sequencer.md R252). -/
inductive CycleCase where
  | plain
  | emission
  | force
deriving DecidableEq, Repr

/-- R87: SETUP = RESET ; CALHOOK. -/
def setupOps : List Instr := [.reset, .calhook]

/-- R87, R252: the operations of a CYCLE in each of its three cases. -/
def cycleOps (k : CycleCase) : List Instr :=
  match k with
  | .plain => [.measure, .dirupd, .zrun, .accum, .rtick, .outwr]
  | .emission => [.measure, .dirupd, .zrun, .accum, .retarget, .rtick, .outwr]
  | .force => [.measure, .dirupd, .zrun, .force0, .rtick, .outwr]

end Sys2Proof
end

