-- ==== Sys2Proof/Config.lean ====
section
/-! DEFINITION. The configuration record (00_scope.md R5, R6; 10_state.md R33): the block's only control registers,
read-only to every operation. The spec leaves most values OPEN, so the model takes the record as data, held in State
and changed by no operation (assumption 1). Field names are the spec's. A field whose legal values are all
`>= 0` is a `Nat`, so those clauses of R8 hold by type; the others are checked in WellFormed.lean. Beside the record stands
the model's one free value, the unknown input line. -/

namespace Sys2Proof

/-- The immutable configuration (R5, R6), fields in the order of R33. -/
structure Config where
  /-- full-scale duty, in duty steps -/
  RESOLUTION : Nat
  /-- frequency of the incoming PWM, Hz -/
  PWM_FREQUENCY : Nat
  /-- sampling rate controlling the averaging window, Hz -/
  DETERMINE_FREQ : Nat
  /-- PWM cycles parsed before a measurement timeout -/
  CYCLES_PARSED : Nat
  /-- duty steps exempt from ramping -/
  IGNORE_RANGE : Nat
  /-- duty steps for the direct startup jump -/
  LOW_JUMP_LIMIT : Nat
  /-- N: consecutive zero samples before the forced disable -/
  ZERO_RUN_THRESHOLD : Nat
  /-- B: the zero-run counter's negative baseline -/
  ZERO_RUN_BASELINE : Int
  /-- duration of a start ramp, ms -/
  SOFT_START_TIME : Nat
  /-- duration of a stop ramp, ms -/
  SOFT_STOP_TIME : Nat
  /-- duration of a transition ramp, ms -/
  SOFT_TRANSITION_TIME : Nat
  /-- direction-invert flag -/
  DIR_INVERT : Bool
  /-- whether OUTWR applies the calibration map -/
  CAL_ENABLE : Bool
  /-- lower calibration bound, output steps -/
  CAL_LOWER : Nat
  /-- upper calibration bound, output steps -/
  CAL_UPPER : Nat
  /-- whether calibration maps duty 0 to 0 (R6 default true) -/
  CAL_ZERO_PASSTHROUGH : Bool := true
  /-- largest output value (R6 default RESOLUTION) -/
  OUT_MAX : Nat := RESOLUTION
  /-- whether the high pulse is timed (R6 default true) -/
  SAMPLE_ACTIVE_HIGH : Bool := true
  /-- whether a direction change waits for duty 0 (R6 default true) -/
  DIR_GATE : Bool := true
  /-- the effective direction level that means clockwise (R6 default 0) -/
  CW_EFF_LEVEL : Bool := false
  /-- width of the time base, bits (R6 default 32) -/
  TIME_WIDTH : Nat := 32
deriving DecidableEq, Repr

/-- A free value: how far apart the edges of an input line are of which nothing is known (46_sequencer.md R255: the
environment may change its lines at any time). For each such line, numbered by `line`, one less than the time from its
edge `n - 1` to its edge `n`. It has no body, so that no claim can rest on where the edges are (assumption 2). -/
opaque Config.freeGap (line n : Nat) : Nat

/-- The spec's example configuration EX1 (00_scope.md R16). It gives no calibration bounds because calibration is off:
they are 0 here (DESIGN CHOICE, assumption 3). -/
def Config.ex1 : Config where
  RESOLUTION := 255
  PWM_FREQUENCY := 1000
  DETERMINE_FREQ := 10
  CYCLES_PARSED := 3
  IGNORE_RANGE := 2
  LOW_JUMP_LIMIT := 22
  ZERO_RUN_THRESHOLD := 5
  ZERO_RUN_BASELINE := -3
  SOFT_START_TIME := 1000
  SOFT_STOP_TIME := 500
  SOFT_TRANSITION_TIME := 800
  DIR_INVERT := false
  CAL_ENABLE := false
  CAL_LOWER := 0
  CAL_UPPER := 0

/-- The spec's example configuration EX2 (00_scope.md R16), with a window of four samples. -/
def Config.ex2 : Config :=
  { Config.ex1 with
    DETERMINE_FREQ := 250
    CYCLES_PARSED := 2
    ZERO_RUN_THRESHOLD := 1
    ZERO_RUN_BASELINE := -1
    SOFT_START_TIME := 10
    SOFT_STOP_TIME := 5
    SOFT_TRANSITION_TIME := 8 }

end Sys2Proof
end

