-- ==== Sys2Proof/Machine/Parameters.lean ====
section
/-! DEFINITION. What is computed from the configuration: the derived parameters (00_scope.md R7), the clauses of its
well-formedness (R8), one definition a clause, and the register widths (R10). -/

namespace Sys2Proof

/-- W, the averaging window in samples: `floor(PWM_FREQUENCY / DETERMINE_FREQ)` (R7, 41_averager.md R131). -/
def Config.W (c : Config) : Nat := c.PWM_FREQUENCY / c.DETERMINE_FREQ

/-- The measurement timeout in microseconds: the product is exact before the one division (R7). -/
def Config.TIMEOUT_US (c : Config) : Nat := c.CYCLES_PARSED * 1000000 / c.PWM_FREQUENCY

/-- Duration of a start ramp in microseconds (R7). -/
def Config.START_US (c : Config) : Nat := c.SOFT_START_TIME * 1000

/-- Duration of a stop ramp in microseconds (R7). -/
def Config.STOP_US (c : Config) : Nat := c.SOFT_STOP_TIME * 1000

/-- Duration of a transition ramp in microseconds (R7). -/
def Config.TRANS_US (c : Config) : Nat := c.SOFT_TRANSITION_TIME * 1000

/-- The longest ramp duration: the upper end of `duration`'s range (R10). -/
def Config.maxRampUs (c : Config) : Nat := max c.START_US (max c.STOP_US c.TRANS_US)

/-- The modulus of the wrapping time base NOW, `2^TIME_WIDTH` (R10, 10_state.md R21). -/
def Config.timeModulus (c : Config) : Nat := 2 ^ c.TIME_WIDTH

/-- R8: `RESOLUTION >= 1`. -/
def Config.resolutionOk (c : Config) : Bool := decide (1 ≤ c.RESOLUTION)

/-- R8: `PWM_FREQUENCY >= 1`. -/
def Config.pwmFrequencyOk (c : Config) : Bool := decide (1 ≤ c.PWM_FREQUENCY)

/-- R8: `1 <= DETERMINE_FREQ <= PWM_FREQUENCY`, so that `W >= 1`. -/
def Config.determineFreqOk (c : Config) : Bool :=
  decide (1 ≤ c.DETERMINE_FREQ ∧ c.DETERMINE_FREQ ≤ c.PWM_FREQUENCY)

/-- R8: `CYCLES_PARSED >= 1 and TIMEOUT_US >= 1`. -/
def Config.timeoutOk (c : Config) : Bool := decide (1 ≤ c.CYCLES_PARSED ∧ 1 ≤ c.TIMEOUT_US)

/-- R8: `0 <= LOW_JUMP_LIMIT <= RESOLUTION`. -/
def Config.lowJumpOk (c : Config) : Bool := decide (c.LOW_JUMP_LIMIT ≤ c.RESOLUTION)

/-- R8: `ZERO_RUN_BASELINE <= -1`. -/
def Config.baselineOk (c : Config) : Bool := decide (c.ZERO_RUN_BASELINE ≤ -1)

/-- R8: `OUT_MAX >= 1`. -/
def Config.outMaxOk (c : Config) : Bool := decide (1 ≤ c.OUT_MAX)

/-- R8: `0 <= CAL_LOWER <= CAL_UPPER <= OUT_MAX`, checked only when `CAL_ENABLE`. -/
def Config.calibrationOk (c : Config) : Bool :=
  !c.CAL_ENABLE || decide (c.CAL_LOWER ≤ c.CAL_UPPER ∧ c.CAL_UPPER ≤ c.OUT_MAX)

/-- R8: `TIME_WIDTH >= 2 and max(START_US, STOP_US, TRANS_US, TIMEOUT_US) < 2^(TIME_WIDTH-1)`. -/
def Config.timeWidthOk (c : Config) : Bool :=
  decide (2 ≤ c.TIME_WIDTH ∧ max c.maxRampUs c.TIMEOUT_US < 2 ^ (c.TIME_WIDTH - 1))

/-- An uncalibrated duty fits PWM_OUT: with `CAL_ENABLE = 0` the output is the duty itself, and `OUT_MAX >= RESOLUTION` is
required for it to fit (45_output.md R230; 92_eei_decisions.md D27: "needed"). R8 does not list this clause; without it
`pwm_out` could leave its range (R10), so it is part of `Config.wf` (assumption 4). -/
def Config.outputFits (c : Config) : Bool := c.CAL_ENABLE || decide (c.RESOLUTION ≤ c.OUT_MAX)

/-- Bits an unsigned register needs for the values `0 .. n`: `ceil(log2(n+1))` (R10). -/
def unsignedWidth (n : Nat) : Nat := Nat.clog 2 (n + 1)

/-- DUTY_W, the width of a duty register (R10). -/
def Config.dutyW (c : Config) : Nat := unsignedWidth c.RESOLUTION

/-- Bits a two's complement register needs for the values `lo .. hi`, with `lo <= 0 <= hi` (R10). -/
def signedWidth (lo : Int) (hi : Nat) : Nat := max (Nat.clog 2 lo.natAbs) (unsignedWidth hi) + 1

/-- Width of `zr_count`: signed, "wide enough for both ends", B and N + 1 (R10). -/
def Config.zeroRunW (c : Config) : Nat := signedWidth c.ZERO_RUN_BASELINE (c.ZERO_RUN_THRESHOLD + 1)

/-- Width of `pwm_out` (R10). -/
def Config.outW (c : Config) : Nat := unsignedWidth c.OUT_MAX

/-- Width of `avg_sum`, which also holds the transient sum of a full window (R10). -/
def Config.sumW (c : Config) : Nat := unsignedWidth (c.W * c.RESOLUTION)

/-- Width of `avg_count`, which also holds the transient count W (R10). -/
def Config.countW (c : Config) : Nat := unsignedWidth c.W

end Sys2Proof
end

