-- ==== Sys2Proof/Machine/State.lean ====
section
/-! DEFINITION. The machine's state: the nineteen registers of 10_state.md R20 under the spec's names, then the five
fields the model holds beside them (the configuration, the environment's waveforms, absolute time, and two inputs of
a run). Registers are mathematical integers bounded by their ranges, which R10 allows; the ranges are the invariant of
Safety.lean. The block has no addressed memory (20_memory.md R60), so State has no memory. -/

namespace Sys2Proof.Machine

/-- The kind of ramp in progress (10_state.md R28, R29). -/
inductive Kind where
  | none
  | start
  | stop
  | transition
deriving DecidableEq, Repr

/-- How an input line goes on after its listed edges (assumption 2). -/
inductive Tail where
  /-- no further edge -/
  | silent
  /-- an edge at each of the times `firsts`, and at each again every `period` microseconds, for ever -/
  | repeating (firsts : List Nat) (period : Nat)
  /-- the unknown line of this number: edges for ever, at times of which nothing is known (`Config.freeGap`) -/
  | free (line : Nat)
deriving DecidableEq, Repr

/-- One input line over absolute time: its level at time 0 and the times at which it toggles, in microseconds
(40_sampler.md R100): listed edges, then a tail. A function of time, as the spec gives DIR_IN (46_sequencer.md R255), is
such a level with such times, so DIR_IN takes the same form (assumption 2). -/
structure Waveform where
  level0 : Bool
  edges : List Nat
  tail : Tail := .silent
deriving DecidableEq, Repr

/-- The environment (00_scope.md R14): the waveforms of PWM_IN and DIR_IN. No operation changes it (R255 item 4). -/
structure Env where
  pwm : Waveform
  dir : Waveform
deriving DecidableEq, Repr

/-- The state record (10_state.md R20), then the model's own fields. -/
structure State where
  /-- last sample value (R23) -/
  smp_value : Nat
  /-- last sample validity flag (R23) -/
  smp_valid : Bool
  /-- cycle timestamp (R24) -/
  t_c : Nat
  /-- sum accumulator (R25) -/
  avg_sum : Nat
  /-- sample count (R25) -/
  avg_count : Nat
  /-- emission latch valid (R26) -/
  tgt_pending : Bool
  /-- emitted mean (R26) -/
  tgt_value : Nat
  /-- consecutive-zero counter (R27) -/
  zr_count : Int
  /-- zero-force latch (R27) -/
  force_pending : Bool
  /-- current_duty (R28) -/
  cur : Nat
  /-- target_duty (R28) -/
  tgt : Nat
  /-- current_at_ramp_start (R28) -/
  start_duty : Nat
  /-- ramp start time (R28) -/
  start_time : Nat
  /-- ramp duration in microseconds (R28) -/
  duration : Nat
  /-- ramp kind (R28, R29) -/
  kind : Kind
  /-- latched effective direction (R30) -/
  dir_latched : Bool
  /-- direction defined (R30) -/
  dir_valid : Bool
  /-- value driven to the PWM generator (R31) -/
  pwm_out : Nat
  /-- opcode of the next operation: the program counter (R32) -/
  phase : OpWord
  /-- the configuration (R33): read-only -/
  cfg : Config
  /-- the environment (R14, R100): read-only -/
  env : Env
  /-- τ_c, the model's absolute time, with `t_c = τ_c mod 2^TIME_WIDTH` (R105) -/
  tau : Nat
  /-- the model's own: operation words given from outside, next one first (R253) -/
  stream : List OpWord
  /-- the model's own: τ_reset of the coming RESETs, next one first (R250) -/
  resetTimes : List Nat
deriving DecidableEq, Repr

/-- Reasons for a fault: there are none. "The block raises no synchronous exception and has no cause codes"
(60_exceptions.md R300), and no behaviour is treated as a fault or as stuck (93_implementation_defined.md part 1). -/
inductive Fault where
deriving DecidableEq, Repr

/-- Reasons for a refusal: the model has no meaning for the input (60_exceptions.md R302). -/
inductive Refusal where
  /-- Raised by an arm of exec that has no meaning yet. No arm raises it. Safe. -/
  | notModelled (mnemonic : String)
  /-- `bad_config`: raised by every operation and by step when the configuration is not well formed (R8 and
  assumption 4, R302 item 1). Safe. -/
  | badConfig
  /-- `reserved_opcode`: raised by step when the next operation word is 0xA to 0xF (R83, R302 item 2). Safe. -/
  | reservedOpcode
  /-- `out_of_order`: raised by step when a word of the stream is not the phase's and not RESET (R253, R302 item 3). Safe. -/
  | outOfOrder
deriving DecidableEq, Repr

/-- An environment with no edge: PWM_IN and DIR_IN stay low. -/
def Env.silent : Env := { pwm := { level0 := false, edges := [] }, dir := { level0 := false, edges := [] } }

/-- The machine right after RESET (10_state.md R37) under configuration EX1, in the silent environment, at absolute time 0.
Every register has the value R37 gives it (phase CALHOOK, `zr_count = ZERO_RUN_BASELINE`); the configuration, the
environment and the time, which the spec leaves OPEN, are DESIGN CHOICES (assumption 3). -/
def State.reset : State where
  smp_value := 0
  smp_valid := false
  t_c := 0
  avg_sum := 0
  avg_count := 0
  tgt_pending := false
  tgt_value := 0
  zr_count := Config.ex1.ZERO_RUN_BASELINE
  force_pending := false
  cur := 0
  tgt := 0
  start_duty := 0
  start_time := 0
  duration := 0
  kind := .none
  dir_latched := false
  dir_valid := false
  pwm_out := 0
  phase := 0x1
  cfg := Config.ex1
  env := Env.silent
  tau := 0
  stream := []
  resetTimes := []

/-- What an operation or a step answers. -/
abbrev Result := Host.Outcome State Fault Refusal

end Sys2Proof.Machine
end

