-- ==== Sys2Proof/Machine/Operands.lean ====
section
/-! DEFINITION. What operations read: the integer operations (00_scope.md R13), the input ports and the waveforms behind
them (10_state.md R21, 40_sampler.md R100), and the effective sample. Every operand is an implicit register or port
(30_encoding.md R82). -/

namespace Sys2Proof.Machine

/-- R13: `clamp(v, lo, hi) = min(max(v, lo), hi)`. -/
def clamp (v lo hi : Nat) : Nat := min (max v lo) hi

/-- R13: `|a - b|` of two duties. -/
def absDiff (a b : Nat) : Nat := ((a : Int) - (b : Int)).natAbs

/-- R13: `trunc0(a / b)`, the quotient rounded toward zero. -/
def trunc0 (a b : Int) : Int := a.tdiv b

/-- R13: `(a - b) mod 2^k`, the unsigned difference on a k-bit wrapping counter. -/
def modSub (a b k : Nat) : Nat := (((a : Int) - (b : Int)) % (2 ^ k : Nat)).toNat

/-- The edges of the unknown line `line` after the time `start`: the n-th of them. -/
def freeEdge (start line : Nat) : Nat → Nat
  | 0 => start + Config.freeGap line 0 + 1
  | n + 1 => freeEdge start line n + Config.freeGap line (n + 1) + 1

/-- Whether a tail that follows the time `start` has an edge at τ. The n-th edge of an unknown line is later than n, so the
first τ + 1 of them are all that could be at τ. -/
def Tail.hasEdge (start : Nat) (t : Tail) (τ : Nat) : Bool :=
  match t with
  | .silent => false
  | .repeating firsts period => firsts.any (fun f => decide (f ≤ τ) && (τ - f) % period == 0)
  | .free line => (List.range (τ + 1)).any (fun n => freeEdge start line n == τ)

/-- How many edges of the tail are at or before τ. -/
def Tail.count (start : Nat) (t : Tail) (τ : Nat) : Nat :=
  match t with
  | .silent => 0
  | .repeating firsts period => (firsts.map (fun f => if f ≤ τ then (τ - f) / period + 1 else 0)).sum
  | .free line => (List.range (τ + 1)).countP (fun n => decide (freeEdge start line n ≤ τ))

/-- The first time after τ of an edge that repeats every `period` from `f` on; `none` if there is none. -/
def nextRepeat (period τ f : Nat) : Option Nat :=
  if τ < f then some f else if period = 0 then none else some (f + ((τ - f) / period + 1) * period)

/-- Edges of the tail after τ, the least of them among them; empty only if there is none. -/
def Tail.after (start : Nat) (t : Tail) (τ : Nat) : List Nat :=
  match t with
  | .silent => []
  | .repeating firsts period => firsts.filterMap (nextRepeat period τ)
  | .free line => ((List.range (τ + 1)).map (freeEdge start line)).filter (fun e => decide (τ < e))

/-- The time of the last listed edge, after which the tail begins. -/
def Waveform.tailStart (w : Waveform) : Nat := w.edges.foldl max 0

/-- Whether τ is one of the line's edge times, `env.pwm_edges` of R100. -/
def Waveform.hasEdge (w : Waveform) (τ : Nat) : Bool := w.edges.contains τ || w.tail.hasEdge w.tailStart τ

/-- R100: `level(τ) = level(0) XOR (count of edges e with 0 < e <= τ, mod 2)`. An edge at exactly τ has happened at τ. -/
def Waveform.level (w : Waveform) (τ : Nat) : Bool :=
  w.level0 ^^
    ((w.edges.countP (fun e => decide (0 < e) && decide (e ≤ τ)) + w.tail.count w.tailStart τ) % 2 == 1)

/-- R100: `next_edge(τ)`, the least edge time after τ; `none` where there is none. -/
def Waveform.nextEdge (w : Waveform) (τ : Nat) : Option Nat :=
  (w.edges.filter (fun e => decide (τ < e)) ++ w.tail.after w.tailStart τ).min?

/-- A tail keeps the order of R255 item 1: repeating edges come after the listed ones, and within one period of each other. -/
def Tail.wf (start : Nat) (t : Tail) : Bool :=
  match t with
  | .silent => true
  | .repeating firsts period =>
    decide (0 < period) && firsts.all (fun f => decide (start < f))
      && decide (firsts.Pairwise (fun f g => f < g ∧ g < f + period))
  | .free _ => true

/-- R255 item 1: edge times are strictly increasing and greater than 0. The environment owes the block this; no
operation refuses a waveform that breaks it (assumption 2). -/
def Waveform.wf (w : Waveform) : Bool :=
  decide (w.edges.Pairwise (· < ·)) && w.edges.all (fun e => decide (0 < e)) && w.tail.wf w.tailStart

/-- Port PWM_IN at absolute time τ (R21). -/
def Env.pwm_level (e : Env) (τ : Nat) : Bool := e.pwm.level τ

/-- Port DIR_IN at absolute time τ (R21). -/
def Env.dir_level (e : Env) (τ : Nat) : Bool := e.dir.level τ

/-- R255: what the environment owes of its waveforms. -/
def Env.wf (e : Env) : Bool := e.pwm.wf && e.dir.wf

/-- Port NOW at absolute time τ: `τ mod 2^TIME_WIDTH` (R14, R21). -/
def nowAt (c : Config) (τ : Nat) : Nat := τ % c.timeModulus

/-- R101: the active level A of the sampled pulse. -/
def activeLevel (c : Config) : Bool := c.SAMPLE_ACTIVE_HIGH

/-- The cycle's sample as its consumers read it: an invalid sample counts as duty 0 (42_zero_run.md R150,
41_averager.md R130). -/
def State.effectiveSample (s : State) : Nat := if s.smp_valid then s.smp_value else 0

/-- τ_reset of the next RESET (46_sequencer.md R250): the time the environment gives it, else the time the model has
reached (assumption 5). -/
def State.resetTime (s : State) : Nat := s.resetTimes.headD s.tau

/-- Port PWM_OUT (10_state.md R22). -/
def State.pwmOutPort (s : State) : Nat := s.pwm_out

/-- Port CW (R22, R30). -/
def State.CW (s : State) : Bool := s.dir_valid && (s.dir_latched == s.cfg.CW_EFF_LEVEL)

/-- Port CCW (R22, R30). -/
def State.CCW (s : State) : Bool := s.dir_valid && (s.dir_latched != s.cfg.CW_EFF_LEVEL)

/-- The code of a ramp kind (R29). -/
def Kind.code (k : Kind) : BitVec 2 :=
  match k with
  | .none => 0b00
  | .start => 0b01
  | .stop => 0b10
  | .transition => 0b11

/-- The ramp kind of a code (R29): every two-bit value is one of the four. -/
def kindOfCode (b : BitVec 2) : Kind :=
  match b.toNat with
  | 0 => .none
  | 1 => .start
  | 2 => .stop
  | _ => .transition

end Sys2Proof.Machine
end

