-- ==== Sys2Proof/Machine/Flags.lean ====
section
/-! DEFINITION. The conditions that set the block's four status flags (10_state.md R34). The block has no condition
codes. Who writes which flag is in the operations' own files. -/

namespace Sys2Proof.Machine

/-- The zero-force event of ZRUN: a zero sample that takes the counter to N + 1 (42_zero_run.md R150). The counter
fires on reaching N + 1 and saturates there, so an already saturated counter does not fire. -/
def zeroForceFires (c : Config) (v : Nat) (zr : Int) : Bool :=
  decide (v = 0) && decide (zr ≤ (c.ZERO_RUN_THRESHOLD : Int)) && decide (zr + 1 = (c.ZERO_RUN_THRESHOLD : Int) + 1)

/-- The window closes with this sample: `cnt == W` (41_averager.md R130). -/
def windowCloses (c : Config) (avg_count : Nat) : Bool := decide (avg_count + 1 = c.W)

/-- The direction gate is open: `(DIR_GATE == 0) or (cur == 0)` (44_direction.md R210, R213). -/
def gateOpen (c : Config) (cur : Nat) : Bool := !c.DIR_GATE || decide (cur = 0)

end Sys2Proof.Machine
end

