-- ==== Sys2Proof/WellFormed.lean ====
section
/-! DEFINITION. Well-formedness: of the configuration (00_scope.md R8), which a model must refuse when it fails, and of
an instruction, which has no field that could be out of range (30_encoding.md R82). -/

namespace Sys2Proof

/-- R8: the configuration is well formed when every clause holds, and when an uncalibrated duty fits the output, which R230
and D27 require beside R8's list (assumption 4). The clauses `IGNORE_RANGE >= 0`,
`ZERO_RUN_THRESHOLD >= 0`, `SOFT_*_TIME >= 0`, `LOW_JUMP_LIMIT >= 0` and `CAL_LOWER >= 0` hold by type. -/
def Config.wf (c : Config) : Bool :=
  c.resolutionOk && c.pwmFrequencyOk && c.determineFreqOk && c.timeoutOk && c.lowJumpOk && c.baselineOk
    && c.outMaxOk && c.calibrationOk && c.timeWidthOk && c.outputFits

/-- R80, R82: an operation has no operand, immediate or mode field, so every term of `Instr` is well formed. -/
def Instr.wf (_ : Instr) : Bool := true

end Sys2Proof
end

