-- ==== Sys2Proof/Machine/Ops.lean ====
section
/-! DEFINITION. The shared operations over the state: the named register updates and the configuration check every
operation makes. Each operation reads its operands from the state it starts in and writes its results together
(00_scope.md R12; 46_sequencer.md R253).
There is no operation here for taking an exception or for returning from one: the block has neither
(60_exceptions.md R300, R305). -/

namespace Sys2Proof.Machine

/-- A setup of the ramp: the driven duty, the interpolation's start, the length and the kind (10_state.md R28). -/
structure RampSetup where
  cur : Nat
  start_duty : Nat
  duration : Nat
  kind : Kind
deriving DecidableEq, Repr

/-- A duty applied at once, with no ramp (43_ramp.md R171, R173, R174; 42_zero_run.md R151). -/
def jumpTo (target : Nat) : RampSetup := { cur := target, start_duty := target, duration := 0, kind := .none }

/-- A ramp that starts from the duty `a`, which is driven at once (43_ramp.md R172, R173). -/
def rampFrom (a duration : Nat) (k : Kind) : RampSetup :=
  { cur := a, start_duty := a, duration := duration, kind := k }

/-- R8, R302 item 1: the model has no meaning for an ill-formed configuration and refuses it. -/
def configured (s : State) (r : Result) : Result := if s.cfg.wf then r else .refused .badConfig

/-- R32, R251: the next operation is `i`. -/
def State.setPhase (s : State) (i : Instr) : State := { s with phase := encode i }

/-- R23: write the sample registers. -/
def State.setSample (s : State) (value : Nat) (valid : Bool) : State :=
  { s with smp_value := value, smp_valid := valid }

/-- R24, R105: absolute time becomes τ, and the cycle timestamp its image on the wrapping time base. -/
def State.setTime (s : State) (τ : Nat) : State := { s with tau := τ, t_c := nowAt s.cfg τ }

/-- R25: write the accumulator registers. -/
def State.setWindow (s : State) (sum count : Nat) : State := { s with avg_sum := sum, avg_count := count }

/-- R26: latch an emitted mean for RETARGET. -/
def State.latchEmission (s : State) (mean : Nat) : State := { s with tgt_value := mean, tgt_pending := true }

/-- R26: consume the emission latch. -/
def State.clearEmission (s : State) : State := { s with tgt_pending := false }

/-- R27: write the zero-run counter. -/
def State.setZeroCount (s : State) (count : Int) : State := { s with zr_count := count }

/-- R27: write the zero-force latch. -/
def State.setForce (s : State) (pending : Bool) : State := { s with force_pending := pending }

/-- R28: write the driven duty. -/
def State.setCur (s : State) (duty : Nat) : State := { s with cur := duty }

/-- R28: write the ramp kind. -/
def State.setKind (s : State) (k : Kind) : State := { s with kind := k }

/-- R28: write all six ramp registers: the setup, the target and the time it arrived. -/
def State.setRamp (s : State) (target now : Nat) (r : RampSetup) : State :=
  { s with
    cur := r.cur, tgt := target, start_duty := r.start_duty, start_time := now, duration := r.duration, kind := r.kind }

/-- R30: latch an accepted effective direction; direction is defined from then on. -/
def State.latchDirection (s : State) (eff : Bool) : State := { s with dir_latched := eff, dir_valid := true }

/-- R31: drive PWM_OUT. -/
def State.setOutput (s : State) (value : Nat) : State := { s with pwm_out := value }

/-- R253: the head of the operation stream is consumed. -/
def State.popStream (s : State) : State := { s with stream := s.stream.tail }

/-- R250: the time given for this RESET is consumed. -/
def State.popResetTime (s : State) : State := { s with resetTimes := s.resetTimes.tail }

/-- R253: give the machine an operation stream to check against its own order. -/
def State.withStream (s : State) (words : List OpWord) : State := { s with stream := words }

end Sys2Proof.Machine
end

