-- ==== Sys2Proof/Machine/Averager.lean ====
section
/-! DEFINITION. The Running Averager: ACCUM (41_averager.md). -/

namespace Sys2Proof.Machine

/-- R130: add the sample to the window; when it is full, emit the floor-mean and clear the window. The next phase
follows the closing itself, as R130's pseudocode has it (assumption 7). -/
def accumEffect (s : State) : State :=
  if windowCloses s.cfg s.avg_count then
    (((s.latchEmission ((s.avg_sum + s.effectiveSample) / s.cfg.W)).setWindow 0 0).setPhase .retarget)
  else (s.setWindow (s.avg_sum + s.effectiveSample) (s.avg_count + 1)).setPhase .rtick

/-- ACCUM (R130). -/
def execAccum (s : State) : Result := configured s (.next (accumEffect s))

end Sys2Proof.Machine
end

