-- ==== Sys2Proof/Machine/Direction.lean ====
section
/-! DEFINITION. The Direction Controller: DIRUPD (44_direction.md). -/

namespace Sys2Proof.Machine

/-- R211: `eff = DIR_IN XOR DIR_INVERT`, with DIR_IN at the cycle time. -/
def effectiveDirection (s : State) : Bool := s.env.dir_level s.tau ^^ s.cfg.DIR_INVERT

/-- R210: latch the effective direction if the gate is open. -/
def dirupdEffect (s : State) : State :=
  if gateOpen s.cfg s.cur then (s.latchDirection (effectiveDirection s)).setPhase .zrun else s.setPhase .zrun

/-- DIRUPD (R210). -/
def execDirupd (s : State) : Result := configured s (.next (dirupdEffect s))

end Sys2Proof.Machine
end

