-- ==== Sys2Proof/Machine/Output.lean ====
section
/-! DEFINITION. The Output Driver: OUTWR and CALHOOK (45_output.md). -/

namespace Sys2Proof.Machine

/-- R231: the linear calibration map. -/
def calmap (c : Config) (d : Nat) : Nat :=
  if d = 0 ∧ c.CAL_ZERO_PASSTHROUGH = true then 0
  else c.CAL_LOWER + d * (c.CAL_UPPER - c.CAL_LOWER) / c.RESOLUTION

/-- R232: the calibration table, `LUT[d] = calmap(d)` for `d` in `0 .. RESOLUTION`. -/
def calibrationTable (c : Config) : List Nat := (List.range (c.RESOLUTION + 1)).map (calmap c)

/-- R232: `LutRead(d)`, computed on the fly, which R232 allows; it agrees with the table entry for entry (assumption 8). -/
def lutRead (c : Config) (d : Nat) : Nat := calmap c d

/-- The value OUTWR drives: the duty, or its calibrated image (R230). -/
def outputValue (c : Config) (d : Nat) : Nat := if c.CAL_ENABLE then lutRead c d else d

/-- R230: write the duty to PWM_OUT; the next cycle begins. -/
def outwrEffect (s : State) : State := (s.setOutput (outputValue s.cfg s.cur)).setPhase .measure

/-- OUTWR (R230). -/
def execOutwr (s : State) : Result := configured s (.next (outwrEffect s))

/-- R233: the hook changes no block register; only the phase moves on (assumption 9). -/
def calhookEffect (s : State) : State := s.setPhase .measure

/-- CALHOOK (R233). -/
def execCalhook (s : State) : Result := configured s (.next (calhookEffect s))

end Sys2Proof.Machine
end

