-- ==== Sys2Proof/Machine/Ramp.lean ====
section
/-! DEFINITION. The Ramp Generator: RETARGET and RTICK (43_ramp.md). -/

namespace Sys2Proof.Machine

/-- R171 to R173: the decision sequence for a target `T` from the current duty `C`, steps 1 to 3. -/
def classify (c : Config) (C T : Nat) : RampSetup :=
  if absDiff T C ≤ c.IGNORE_RANGE then jumpTo T
  else if C = 0 then
    if T ≤ c.LOW_JUMP_LIMIT then jumpTo T
    else rampFrom c.LOW_JUMP_LIMIT c.START_US .start
  else if T = 0 then rampFrom C c.STOP_US .stop
  else rampFrom C c.TRANS_US .transition

/-- R174: a ramp of duration 0 completes at once. -/
def completeZeroLength (T : Nat) (r : RampSetup) : RampSetup :=
  if r.kind ≠ .none ∧ r.duration = 0 then jumpTo T else r

/-- The target RETARGET takes: the emitted mean, clamped (R170). -/
def newTarget (s : State) : Nat := clamp s.tgt_value 0 s.cfg.RESOLUTION

/-- The setup RETARGET arrives at (R170). -/
def rampSetup (s : State) : RampSetup := completeZeroLength (newTarget s) (classify s.cfg s.cur (newTarget s))

/-- R170: consume the emission, record the target and the time (step 4), and write the setup. -/
def retargetEffect (s : State) : State :=
  (s.clearEmission.setRamp (newTarget s) s.t_c (rampSetup s)).setPhase .rtick

/-- RETARGET (R170). -/
def execRetarget (s : State) : Result := configured s (.next (retargetEffect s))

/-- R177: `lerp(a, b, e, d) = a + trunc0((b - a) * e / d)`, the product exact and signed. For duties and `e < d` the
value lies between `a` and `b`, so reading it as a natural number loses nothing. -/
def lerp (a b e d : Nat) : Nat := ((a : Int) + trunc0 (((b : Int) - (a : Int)) * (e : Int)) (d : Int)).toNat

/-- R176: the elapsed time of the ramp, on the wrapping time base. -/
def elapsed (s : State) : Nat := modSub s.t_c s.start_time s.cfg.TIME_WIDTH

/-- R176: advance the ramp to the cycle's time; `duration` is left unchanged when it completes. -/
def rtickEffect (s : State) : State :=
  if s.kind = .none then s.setPhase .outwr
  else if s.duration ≤ elapsed s then ((s.setCur s.tgt).setKind .none).setPhase .outwr
  else (s.setCur (lerp s.start_duty s.tgt (elapsed s) s.duration)).setPhase .outwr

/-- RTICK (R176). -/
def execRtick (s : State) : Result := configured s (.next (rtickEffect s))

end Sys2Proof.Machine
end

