-- ==== Sys2Proof/Machine/Sampler.lean ====
section
/-! DEFINITION. The Duty Sampler: MEASURE (40_sampler.md). -/

namespace Sys2Proof.Machine

/-- The next edge after τ if it comes by the deadline `D` (R102: an edge exactly at D counts). -/
def edgeBy (w : Waveform) (D τ : Nat) : Option Nat :=
  match w.nextEdge τ with
  | some e => if e ≤ D then some e else none
  | none => none

/-- τs of R105: where the search for an active-going edge starts. A pulse in progress at τ0 is skipped, and its end must
itself come by the deadline. -/
def searchStart (c : Config) (w : Waveform) (D τ0 : Nat) : Option Nat :=
  if w.level τ0 = activeLevel c then edgeBy w D τ0 else some τ0

/-- R105: the first two edges after τs, if both come by the deadline: the active-going one, then the inactive-going one. -/
def pairFrom (w : Waveform) (D τs : Nat) : Option (Nat × Nat) :=
  match edgeBy w D τs with
  | none => none
  | some τr =>
    match edgeBy w D τr with
    | none => none
    | some τf => some (τr, τf)

/-- R102, R105: the qualifying edge pair (τr, τf) of a measurement that starts at τ0, if it is complete by
`D = τ0 + TIMEOUT_US`. -/
def qualifyingPair (c : Config) (w : Waveform) (τ0 : Nat) : Option (Nat × Nat) :=
  match searchStart c w (τ0 + c.TIMEOUT_US) τ0 with
  | none => none
  | some τs => pairFrom w (τ0 + c.TIMEOUT_US) τs

/-- R103: the duty of a pulse of width `w`: the product is exact, the one division rounds down, and the clamp is the
source's. -/
def dutyOfWidth (c : Config) (w : Nat) : Nat :=
  clamp (w * c.RESOLUTION * c.PWM_FREQUENCY / 1000000) 0 c.RESOLUTION

/-- R104, R105: the sample and the end of the measurement. -/
def measureEffect (s : State) : State :=
  match qualifyingPair s.cfg s.env.pwm s.tau with
  | some (τr, τf) => ((s.setSample (dutyOfWidth s.cfg (τf - τr)) true).setTime τf).setPhase .dirupd
  | none => ((s.setSample 0 false).setTime (s.tau + s.cfg.TIMEOUT_US)).setPhase .dirupd

/-- MEASURE (R105). -/
def execMeasure (s : State) : Result := configured s (.next (measureEffect s))

end Sys2Proof.Machine
end

