-- ==== Sys2Proof/Machine/Sequencer.lean ====
section
/-! DEFINITION. The sequencer's own operation: RESET (46_sequencer.md R250). -/

namespace Sys2Proof.Machine

/-- R37, R250: every register at its reset value, absolute time at τ_reset, and setup next. The time given for this RESET
is consumed; the configuration, the environment and the stream are no registers and stay. -/
def resetAt (s : State) (τ_reset : Nat) : State :=
  { s with
    tau := τ_reset
    t_c := nowAt s.cfg τ_reset
    smp_value := 0
    smp_valid := false
    avg_sum := 0
    avg_count := 0
    tgt_pending := false
    tgt_value := 0
    zr_count := s.cfg.ZERO_RUN_BASELINE
    force_pending := false
    cur := 0
    tgt := 0
    start_duty := 0
    start_time := nowAt s.cfg τ_reset
    duration := 0
    kind := .none
    dir_latched := false
    dir_valid := false
    pwm_out := 0
    phase := encode .calhook }

/-- R250, at the environment's reset time. -/
def resetEffect (s : State) : State := (resetAt s s.resetTime).popResetTime

/-- RESET (R250): accepted in any phase. -/
def execReset (s : State) : Result := configured s (.next (resetEffect s))

end Sys2Proof.Machine
end

