-- ==== Sys2Proof/Machine/ZeroRun.lean ====
section
/-! DEFINITION. The Zero-Run Detector: ZRUN and FORCE0 (42_zero_run.md). -/

namespace Sys2Proof.Machine

/-- R150: the counter after a sample `v`: one more zero unless saturated at N + 1, or back to the baseline B. -/
def zeroCountNext (c : Config) (v : Nat) (zr : Int) : Int :=
  if v = 0 then (if zr ≤ (c.ZERO_RUN_THRESHOLD : Int) then zr + 1 else zr) else c.ZERO_RUN_BASELINE

/-- R150: update the counter and fire the zero-force event. The next phase follows the event itself ("force_pending set
above", assumption 7). -/
def zrunEffect (s : State) : State :=
  if zeroForceFires s.cfg s.effectiveSample s.zr_count then
    ((s.setZeroCount (zeroCountNext s.cfg s.effectiveSample s.zr_count)).setForce true).setPhase .force0
  else (s.setZeroCount (zeroCountNext s.cfg s.effectiveSample s.zr_count)).setPhase .accum

/-- ZRUN (R150). -/
def execZrun (s : State) : Result := configured s (.next (zrunEffect s))

/-- R151: the ramp is idle at 0, the window is empty, the latch is cleared; ACCUM and RETARGET are skipped. -/
def force0Effect (s : State) : State :=
  (((s.setRamp 0 s.t_c (jumpTo 0)).setWindow 0 0).setForce false).setPhase .rtick

/-- FORCE0 (R151). -/
def execForce0 (s : State) : Result := configured s (.next (force0Effect s))

end Sys2Proof.Machine
end

