-- ==== Sys2Proof/Machine/Dispatch.lean ====
section
/-! DEFINITION. The dispatch: one arm per operation. -/

namespace Sys2Proof.Machine

def exec (i : Instr) (s : State) : Host.Outcome State Fault Refusal :=
  match i with
  | .reset => Sys2Proof.Machine.execReset s
  | .calhook => Sys2Proof.Machine.execCalhook s
  | .measure => Sys2Proof.Machine.execMeasure s
  | .dirupd => Sys2Proof.Machine.execDirupd s
  | .zrun => Sys2Proof.Machine.execZrun s
  | .force0 => Sys2Proof.Machine.execForce0 s
  | .accum => Sys2Proof.Machine.execAccum s
  | .retarget => Sys2Proof.Machine.execRetarget s
  | .rtick => Sys2Proof.Machine.execRtick s
  | .outwr => Sys2Proof.Machine.execOutwr s

end Sys2Proof.Machine
end

