-- ==== Sys2Proof/Machine/Fetch.lean ====
section
/-! DEFINITION. Where the next operation comes from: the phase register (10_state.md R32), or a stream of words given
from outside, each checked against it (46_sequencer.md R253). -/

namespace Sys2Proof.Machine

/-- The word that names the next operation: the stream's next word while it has one, else the phase. -/
def nextWord (s : State) : OpWord := s.stream.headD s.phase

/-- R253: a word of a stream is in order if it is the phase's own or RESET, which is accepted in any phase. -/
def inOrder (s : State) (w : OpWord) : Bool := decide (w = s.phase) || decide (w = encode .reset)

/-- What the fetch answers: an operation, or the reason the model refuses the word. -/
inductive Fetched where
  | op (i : Instr)
  | refuse (r : Refusal)
deriving DecidableEq, Repr

/-- Fetch the next operation. A reserved word is refused as such before its order is looked at (95_test_vectors.md part
2.1: `0 1 A`). -/
def fetch (s : State) : Fetched :=
  match decodeWord (nextWord s) with
  | .reserved => .refuse .reservedOpcode
  | .op i => if inOrder s (nextWord s) then .op i else .refuse .outOfOrder

end Sys2Proof.Machine
end

