-- ==== Sys2Proof/Machine/Step.lean ====
section
/-! DEFINITION. One step: the configuration check, the fetch, and the operation. -/

namespace Sys2Proof.Machine

/-- One atomic operation of the block (46_sequencer.md R253). A word taken from the stream is consumed before its operation
runs, so a refused word leaves no next state. -/
def step (s : State) : Host.Outcome State Fault Refusal :=
  if s.cfg.wf then
    match fetch s with
    | .op i => exec i s.popStream
    | .refuse r => .refused r
  else .refused .badConfig

/-- `s` with the instruction `w` where step fetches its next one: in the phase register, with no stream before it. The
block has no program memory (R70), so the phase register is all there is to place it in. -/
def State.withFetchWord (s : State) (_nbits w : Nat) : State := { s with phase := BitVec.ofNat 4 w, stream := [] }

end Sys2Proof.Machine
end

