-- ==== Sys2Proof/Safety.lean ====
section
/-! DEFINITION. What a safe state is, in the terms the claims use: the invariant of 10_state.md R35 with the ranges of
00_scope.md R10, in one definition per sub-block; and the runs of single operations that claims speak of. -/

namespace Sys2Proof.Machine

/-- Time: `t_c = τ_c mod 2^TIME_WIDTH` (40_sampler.md R105). -/
abbrev TimeInv (s : State) : Prop := s.t_c = nowAt s.cfg s.tau

/-- R35: the sample is a duty, and an invalid one is 0. -/
abbrev SamplerInv (s : State) : Prop :=
  s.smp_value ≤ s.cfg.RESOLUTION ∧ (s.smp_valid = false → s.smp_value = 0)

/-- R35: `0 <= avg_count <= W - 1`, `avg_sum <= avg_count * RESOLUTION`, and the emitted mean is a duty. -/
abbrev AveragerInv (s : State) : Prop :=
  s.avg_count < s.cfg.W ∧ s.avg_sum ≤ s.avg_count * s.cfg.RESOLUTION ∧ s.tgt_value ≤ s.cfg.RESOLUTION

/-- R35: `B <= zr_count <= N + 1`. -/
abbrev ZeroRunInv (s : State) : Prop :=
  s.cfg.ZERO_RUN_BASELINE ≤ s.zr_count ∧ s.zr_count ≤ (s.cfg.ZERO_RUN_THRESHOLD : Int) + 1

/-- R10, R35: the ramp registers are in range; a ramp has a length, an idle ramp is at its target, and a running one is
between its ends. -/
abbrev RampInv (s : State) : Prop :=
  s.cur ≤ s.cfg.RESOLUTION ∧ s.tgt ≤ s.cfg.RESOLUTION ∧ s.start_duty ≤ s.cfg.RESOLUTION ∧
    s.start_time < s.cfg.timeModulus ∧ s.duration ≤ s.cfg.maxRampUs ∧ (s.kind ≠ .none → 0 < s.duration) ∧
    (s.kind = .none → s.cur = s.tgt) ∧
    (s.kind ≠ .none → min s.start_duty s.tgt ≤ s.cur ∧ s.cur ≤ max s.start_duty s.tgt)

/-- R35: CW and CCW are never both asserted. -/
abbrev DirectionInv (s : State) : Prop := ¬(s.CW = true ∧ s.CCW = true)

/-- R35: `0 <= pwm_out <= OUT_MAX`. -/
abbrev OutputInv (s : State) : Prop := s.pwm_out ≤ s.cfg.OUT_MAX

/-- R35: the phase names an operation, and a latch is full only between its writer and its reader. -/
abbrev SequencerInv (s : State) : Prop :=
  s.phase.toNat ≤ 9 ∧ (s.tgt_pending = true → s.phase = encode .retarget) ∧
    (s.force_pending = true → s.phase = encode .force0)

/-- The invariant of R35, with the ranges of R10. -/
abbrev BlockInv (s : State) : Prop :=
  s.cfg.wf = true ∧ TimeInv s ∧ SamplerInv s ∧ AveragerInv s ∧ ZeroRunInv s ∧ RampInv s ∧
    DirectionInv s ∧ OutputInv s ∧ SequencerInv s

/-- The output still carries the driven duty: true from a cycle's OUTWR (and from RESET) until the next cycle's ZRUN
(44_direction.md R213). -/
abbrev DrivenInv (s : State) : Prop :=
  (s.phase = encode .calhook ∨ s.phase = encode .measure ∨ s.phase = encode .dirupd) →
    s.pwm_out = outputValue s.cfg s.cur

/-- Duty 0 is driven as 0: calibration is off, or passes zero through (45_output.md R231, 70_reset_and_hazards.md R339). -/
abbrev zeroDrivesZero (c : Config) : Prop := c.CAL_ENABLE = false ∨ c.CAL_ZERO_PASSTHROUGH = true

/-- `e` is the next edge of `w` after τ (40_sampler.md R100): an edge later than τ, and no later edge comes before it. -/
abbrev IsNextEdge (w : Waveform) (τ e : Nat) : Prop :=
  w.hasEdge e = true ∧ τ < e ∧ ∀ x, w.hasEdge x = true → τ < x → e ≤ x

/-- `(τr, τf)` is the qualifying edge pair of a measurement that starts at τ0 (R102): two successive edges by the deadline,
after τ0, or after the end of the pulse that is in progress at τ0. -/
def QualifyingPair (c : Config) (w : Waveform) (τ0 τr τf : Nat) : Prop :=
  IsNextEdge w τr τf ∧ τf ≤ τ0 + c.TIMEOUT_US ∧
    ((w.level τ0 ≠ activeLevel c ∧ IsNextEdge w τ0 τr) ∨
      (w.level τ0 = activeLevel c ∧ ∃ τs, IsNextEdge w τ0 τs ∧ IsNextEdge w τs τr))

/-- The phase table of R251: what the phase becomes when an operation has ended in the state `t`. -/
def phaseAfter (i : Instr) (t : State) : OpWord :=
  match i with
  | .reset => encode .calhook
  | .calhook => encode .measure
  | .measure => encode .dirupd
  | .dirupd => encode .zrun
  | .zrun => if t.force_pending then encode .force0 else encode .accum
  | .force0 => encode .rtick
  | .accum => if t.tgt_pending then encode .retarget else encode .rtick
  | .retarget => encode .rtick
  | .rtick => encode .outwr
  | .outwr => encode .measure

/-- Run one operation again and again, `n` times. -/
def execTimes (i : Instr) : Nat → State → Result
  | 0, s => .next s
  | n + 1, s =>
    match exec i s with
    | .next t => execTimes i n t
    | .fault r => .fault r
    | .refused r => .refused r

/-- Run the operations of a list in order. -/
def execList : List Instr → State → Result
  | [], s => .next s
  | i :: rest, s =>
    match exec i s with
    | .next t => execList rest t
    | .fault r => .fault r
    | .refused r => .refused r

/-- Run ACCUM once on each sample of a list (value, validity), in order. -/
def accumAll : List (Nat × Bool) → State → Result
  | [], s => .next s
  | (v, ok) :: rest, s =>
    match exec .accum (s.setSample v ok) with
    | .next t => accumAll rest t
    | .fault r => .fault r
    | .refused r => .refused r

/-- What a sample of the list contributes: 0 where it is invalid (41_averager.md R130). -/
def contribution (x : Nat × Bool) : Nat := if x.2 then x.1 else 0

/-- The words of the operations the next `n` steps run. -/
def wordsRun : Nat → State → List OpWord
  | 0, _ => []
  | n + 1, s =>
    match step s with
    | .next t => nextWord s :: wordsRun n t
    | .fault _ => []
    | .refused _ => []

end Sys2Proof.Machine
end

