-- ==== Sys2Proof/Certificates/Slice0/Obligations.lean ====
section
/-! DEFINITION. The statements for the provers. Each docstring names the rule of spec/ it formalises; where the spec marks
the sentence as its own derivation, or the clause rests on a log entry, it says so. No operation has a
free value: the configuration and the environment are arbitrary in every statement, an input line of which nothing is known
among them (log entry 2). -/

open Sys2Proof Sys2Proof.Machine

/-! ### Encoding -/

/-- R81: the ten codes, each word written out as the opcode map has it, and no operation at 0xA to 0xF. -/
def Obligations.WrittenWordsDecode : Prop :=
  decode 0b0000#4 = some .reset ∧ decode 0b0001#4 = some .calhook ∧ decode 0b0010#4 = some .measure ∧
    decode 0b0011#4 = some .dirupd ∧ decode 0b0100#4 = some .zrun ∧ decode 0b0101#4 = some .force0 ∧
    decode 0b0110#4 = some .accum ∧ decode 0b0111#4 = some .retarget ∧ decode 0b1000#4 = some .rtick ∧
    decode 0b1001#4 = some .outwr ∧ ∀ w : OpWord, 0xA ≤ w.toNat → decode w = none

/-- Decode and encode agree, in both directions: an operation's word decodes to it, and a word that decodes to an
operation is that operation's word (30_encoding.md section 2). -/
def Obligations.DecodeAndEncodeAgree : Prop :=
  (∀ i : Instr, i.wf = true → decode (encode i) = some i) ∧ ∀ (w : OpWord) (i : Instr), decode w = some i → encode i = w

/-- R85 and the first sentences of R83: a word is either one of the ten operations' or reserved, and the reserved ones are
exactly 0xA to 0xF. -/
def Obligations.ReservedWordsAreNamed : Prop :=
  ∀ w : OpWord, (decodeWord w = .reserved ↔ 0xA ≤ w.toNat) ∧ (w.toNat < 0xA ↔ ∃ i, decodeWord w = .op i)

/-- R86: a trace of one mnemonic a line, with any comment after it and any blank lines between, reads as the operations it
names, so that it encodes to their words in order. -/
def Obligations.TraceReadsBack : Prop :=
  ∀ (is : List Instr) (comment : List Char),
    readTrace (is.flatMap (fun i => [i.mnemonic ++ [' ', ';'] ++ comment, []])) = some is

/-- R87: the word strings of SETUP and of the three cases of CYCLE. -/
def Obligations.CycleWordStrings : Prop :=
  encodeTrace setupOps = [0#4, 1#4] ∧ encodeTrace (cycleOps .plain) = [2#4, 3#4, 4#4, 6#4, 8#4, 9#4] ∧
    encodeTrace (cycleOps .emission) = [2#4, 3#4, 4#4, 6#4, 7#4, 8#4, 9#4] ∧
    encodeTrace (cycleOps .force) = [2#4, 3#4, 4#4, 5#4, 8#4, 9#4]

/-- R29: the two-bit codes of `kind`, and reading them back. -/
def Obligations.KindCodes : Prop :=
  Kind.code .none = 0b00#2 ∧ Kind.code .start = 0b01#2 ∧ Kind.code .stop = 0b10#2 ∧ Kind.code .transition = 0b11#2 ∧
    ∀ k, kindOfCode k.code = k

/-! ### The step, the fetch and what the model refuses -/

/-- A step runs the decoded instruction. Without a stream the word is the phase's (R32). With one it is the stream's next
word, which is consumed; it must be the phase's or RESET (R253). That a stream word is consumed before the operation runs is
the model's choice (log entry 6). -/
def Obligations.StepRunsDecodedInstruction : Prop :=
  ∀ (s : State) (i : Instr), i.wf = true →
    (s.stream = [] → decode s.phase = some i → step s = exec i s) ∧
      ∀ w ws, s.stream = w :: ws → decode w = some i → (w = s.phase ∨ i = .reset) →
        step s = exec i { s with stream := ws }

/-- The three cases in which the model refuses a step (R302), by their reasons, and that it refuses in no other: the next word
is the stream's, or the phase where there is no stream, and a word that is in order, or RESET, runs. It is the model's choice
(log entry 6) which reason a word gets that is refused for two (bad_config before reserved_opcode before out_of_order), and
that a reserved phase without a stream is refused like a reserved word. -/
def Obligations.StepRefusesInThreeCases : Prop :=
  ∀ (s : State) (w : OpWord), w = s.stream.headD s.phase →
    (step s = .refused .badConfig ↔ s.cfg.wf = false) ∧
      (step s = .refused .reservedOpcode ↔ s.cfg.wf = true ∧ decodeWord w = .reserved) ∧
      (step s = .refused .outOfOrder ↔ s.cfg.wf = true ∧ decodeWord w ≠ .reserved ∧ w ≠ s.phase ∧ w ≠ 0x0#4) ∧
      ((∃ t, step s = .next t) ↔ s.cfg.wf = true ∧ decodeWord w ≠ .reserved ∧ (w = s.phase ∨ w = 0x0#4))

/-- R8: "A model given a configuration that is not well formed refuses it and has no meaning for it": one in which a clause of
R8's list fails is refused by every operation and by every step. -/
def Obligations.IllFormedConfigurationIsRefused : Prop :=
  ∀ (i : Instr) (s : State),
    ¬(1 ≤ s.cfg.RESOLUTION ∧ 1 ≤ s.cfg.PWM_FREQUENCY ∧
        (1 ≤ s.cfg.DETERMINE_FREQ ∧ s.cfg.DETERMINE_FREQ ≤ s.cfg.PWM_FREQUENCY) ∧
        (1 ≤ s.cfg.CYCLES_PARSED ∧ 1 ≤ s.cfg.CYCLES_PARSED * 1000000 / s.cfg.PWM_FREQUENCY) ∧
        s.cfg.LOW_JUMP_LIMIT ≤ s.cfg.RESOLUTION ∧ s.cfg.ZERO_RUN_BASELINE ≤ -1 ∧ 1 ≤ s.cfg.OUT_MAX ∧
        (s.cfg.CAL_ENABLE = true → s.cfg.CAL_LOWER ≤ s.cfg.CAL_UPPER ∧ s.cfg.CAL_UPPER ≤ s.cfg.OUT_MAX) ∧
        2 ≤ s.cfg.TIME_WIDTH ∧ s.cfg.SOFT_START_TIME * 1000 < 2 ^ (s.cfg.TIME_WIDTH - 1) ∧
        s.cfg.SOFT_STOP_TIME * 1000 < 2 ^ (s.cfg.TIME_WIDTH - 1) ∧
        s.cfg.SOFT_TRANSITION_TIME * 1000 < 2 ^ (s.cfg.TIME_WIDTH - 1) ∧
        s.cfg.CYCLES_PARSED * 1000000 / s.cfg.PWM_FREQUENCY < 2 ^ (s.cfg.TIME_WIDTH - 1)) →
      exec i s = .refused .badConfig ∧ step s = .refused .badConfig

/-- R33 and R300: under a well-formed configuration every operation, in every state, ends in a next state; no operation
writes the configuration, and none writes the environment (R255 item 4) or the stream. -/
def Obligations.EveryOperationCompletes : Prop :=
  ∀ (i : Instr) (s : State), s.cfg.wf = true →
    ∃ t, exec i s = .next t ∧ t.cfg = s.cfg ∧ t.env = s.env ∧ t.stream = s.stream ∧
      (i ≠ .reset → t.resetTimes = s.resetTimes)

/-- R251: the phase after each operation. ZRUN and ACCUM choose by the latch they write, which R35 has empty before them. -/
def Obligations.PhaseTransitions : Prop :=
  ∀ (i : Instr) (s : State), s.cfg.wf = true → (i = .zrun → s.force_pending = false) →
    (i = .accum → s.tgt_pending = false) → ∃ t, exec i s = .next t ∧ t.phase = phaseAfter i t

/-! ### RESET and CALHOOK -/

/-- R250: RESET, in any state. The environment's τ_reset is the next entry of `resetTimes` (how it is given to the model is
log entry 5). -/
def Obligations.ResetWritesEveryRegister : Prop :=
  ∀ (s : State) (τ : Nat) (later : List Nat), s.cfg.wf = true → s.resetTimes = τ :: later →
    exec .reset s = .next
      { smp_value := 0, smp_valid := false, t_c := τ % 2 ^ s.cfg.TIME_WIDTH, avg_sum := 0, avg_count := 0,
        tgt_pending := false, tgt_value := 0, zr_count := s.cfg.ZERO_RUN_BASELINE, force_pending := false, cur := 0,
        tgt := 0, start_duty := 0, start_time := τ % 2 ^ s.cfg.TIME_WIDTH, duration := 0, kind := .none,
        dir_latched := false, dir_valid := false, pwm_out := 0, phase := 0x1#4, cfg := s.cfg, env := s.env, tau := τ,
        stream := s.stream, resetTimes := later }

/-- The model's choice (log entry 5): a RESET to which the environment gives no time happens at the time the model has
reached, so absolute time stays. The registers are those of R250, at that time. -/
def Obligations.ResetWithoutGivenTimeKeepsTime : Prop :=
  ∀ s : State, s.cfg.wf = true → s.resetTimes = [] →
    exec .reset s = .next
      { smp_value := 0, smp_valid := false, t_c := s.tau % 2 ^ s.cfg.TIME_WIDTH, avg_sum := 0, avg_count := 0,
        tgt_pending := false, tgt_value := 0, zr_count := s.cfg.ZERO_RUN_BASELINE, force_pending := false, cur := 0,
        tgt := 0, start_duty := 0, start_time := s.tau % 2 ^ s.cfg.TIME_WIDTH, duration := 0, kind := .none,
        dir_latched := false, dir_valid := false, pwm_out := 0, phase := 0x1#4, cfg := s.cfg, env := s.env, tau := s.tau,
        stream := s.stream, resetTimes := [] }

/-- R37: the values the spec gives at reset, in the machine's reset state. -/
def Obligations.ResetStateValues : Prop :=
  let r := State.reset
  r.smp_value = 0 ∧ r.smp_valid = false ∧ r.t_c = r.tau % 2 ^ r.cfg.TIME_WIDTH ∧ r.avg_sum = 0 ∧ r.avg_count = 0 ∧
    r.tgt_pending = false ∧ r.tgt_value = 0 ∧ r.zr_count = r.cfg.ZERO_RUN_BASELINE ∧ r.force_pending = false ∧
    r.cur = 0 ∧ r.tgt = 0 ∧ r.start_duty = 0 ∧ r.start_time = r.t_c ∧ r.duration = 0 ∧ r.kind = .none ∧
    r.dir_latched = false ∧ r.dir_valid = false ∧ r.CW = false ∧ r.CCW = false ∧ r.pwm_out = 0 ∧ r.phase = 0x1#4

/-- RESET establishes the invariant from any state at all, and puts the outputs to 0 at once (R250, corner cases). -/
def Obligations.ResetEstablishesInvariant : Prop :=
  ∀ s : State, s.cfg.wf = true →
    ∃ t, exec .reset s = .next t ∧ BlockInv t ∧ (zeroDrivesZero s.cfg → DrivenInv t) ∧ t.pwmOutPort = 0 ∧ t.CW = false ∧ t.CCW = false

/-- R233: CALHOOK leaves every register unchanged except `phase`. -/
def Obligations.CalhookOnlyMovesPhase : Prop :=
  ∀ s : State, s.cfg.wf = true → exec .calhook s = .next { s with phase := 0x2#4 }

/-! ### MEASURE -/

/-- R100: the level starts as given, toggles at every edge, and at no other time; `next_edge` is the least edge after τ, and
undefined if there is none. -/
def Obligations.LevelTogglesExactlyAtEdges : Prop :=
  ∀ w : Waveform, w.wf = true →
    w.level 0 = w.level0 ∧ (∀ τ, (w.hasEdge (τ + 1) = true → w.level (τ + 1) = !w.level τ) ∧
      (w.hasEdge (τ + 1) = false → w.level (τ + 1) = w.level τ)) ∧
      (∀ τ e, w.nextEdge τ = some e ↔ w.hasEdge e = true ∧ τ < e ∧ ∀ x, w.hasEdge x = true → τ < x → e ≤ x) ∧
      ∀ τ, w.nextEdge τ = none ↔ ∀ x, w.hasEdge x = true → x ≤ τ

/-- R105 with R102 and R103: a measurement that has a qualifying pair takes its width's duty and ends at its last edge, and
changes nothing else. -/
def Obligations.MeasureTakesTheQualifyingPulse : Prop :=
  ∀ (s : State) (τr τf : Nat), s.cfg.wf = true → QualifyingPair s.cfg s.env.pwm s.tau τr τf →
    exec .measure s = .next
      { s with
        smp_value := min ((τf - τr) * s.cfg.RESOLUTION * s.cfg.PWM_FREQUENCY / 1000000) s.cfg.RESOLUTION
        smp_valid := true
        tau := τf
        t_c := τf % 2 ^ s.cfg.TIME_WIDTH
        phase := 0x3#4 }

/-- R104: without a qualifying pair the sample is invalid and 0, and the measurement ends at exactly D. -/
def Obligations.MeasureTimesOutAtTheDeadline : Prop :=
  ∀ s : State, s.cfg.wf = true → (∀ τr τf, ¬QualifyingPair s.cfg s.env.pwm s.tau τr τf) →
    exec .measure s = .next
      { s with
        smp_value := 0
        smp_valid := false
        tau := s.tau + s.cfg.CYCLES_PARSED * 1000000 / s.cfg.PWM_FREQUENCY
        t_c := (s.tau + s.cfg.CYCLES_PARSED * 1000000 / s.cfg.PWM_FREQUENCY) % 2 ^ s.cfg.TIME_WIDTH
        phase := 0x3#4 }

/-- R101, R102: under the environment's duties the pair of a measurement lies in the window, and the line is at the active
level exactly between its two edges: a pulse in progress at the start is never the one measured. -/
def Obligations.MeasuredPulseIsOneWholeActivePulse : Prop :=
  ∀ (c : Config) (w : Waveform) (τ0 τr τf : Nat), w.wf = true → QualifyingPair c w τ0 τr τf →
    τ0 < τr ∧ τr < τf ∧ τf ≤ τ0 + c.TIMEOUT_US ∧ w.level (τr - 1) ≠ activeLevel c ∧
      (∀ τ, τr ≤ τ → τ < τf → w.level τ = activeLevel c) ∧ w.level τf ≠ activeLevel c

/-- R106 items 1 and 2 (the spec marks them derived), and R335: a line with no edge in the window reads as an invalid 0,
whichever level it is held at. -/
def Obligations.SteadyLineReadsZero : Prop :=
  ∀ s : State, s.cfg.wf = true →
    (∀ e, s.env.pwm.hasEdge e = true → s.tau < e → s.tau + s.cfg.TIMEOUT_US < e) →
      ∃ t, exec .measure s = .next t ∧ t.smp_value = 0 ∧ t.smp_valid = false ∧ t.tau = s.tau + s.cfg.TIMEOUT_US

/-- R106 items 6 and 7 (the spec marks them derived): a very short pulse is a valid 0, and one as wide as the configured
period, or wider, is RESOLUTION. -/
def Obligations.PulseWidthExtremes : Prop :=
  ∀ (s : State) (τr τf : Nat), s.cfg.wf = true → QualifyingPair s.cfg s.env.pwm s.tau τr τf →
    ∃ t, exec .measure s = .next t ∧ t.smp_valid = true ∧
      ((τf - τr) * s.cfg.RESOLUTION * s.cfg.PWM_FREQUENCY < 1000000 → t.smp_value = 0) ∧
      (1000000 ≤ (τf - τr) * s.cfg.PWM_FREQUENCY → t.smp_value = s.cfg.RESOLUTION)

/-- R340: MEASURE takes between 1 and TIMEOUT_US microseconds, whatever the waveform. -/
def Obligations.MeasureEndsInsideItsWindow : Prop :=
  ∀ s : State, s.cfg.wf = true →
    ∃ t, exec .measure s = .next t ∧ s.tau < t.tau ∧ t.tau ≤ s.tau + s.cfg.TIMEOUT_US ∧
      t.t_c = t.tau % 2 ^ s.cfg.TIME_WIDTH

/-- R340: every operation but MEASURE takes zero time; RESET starts a new time base and is left out. -/
def Obligations.OnlyMeasureTakesTime : Prop :=
  ∀ (i : Instr) (s t : State), i ≠ .measure → i ≠ .reset → exec i s = .next t → t.tau = s.tau ∧ t.t_c = s.t_c

/-- The sample depends on the line's level at τ0 and on the edges in `(τ0, D]` alone: two environments that agree there give
the same measurement (40_sampler.md, R105). -/
def Obligations.MeasureSeesOnlyItsWindow : Prop :=
  ∀ s s' : State, s.cfg.wf = true → s'.cfg = s.cfg → s'.tau = s.tau →
    s'.env.pwm.level s.tau = s.env.pwm.level s.tau →
    (∀ e, s.tau < e → e ≤ s.tau + s.cfg.TIMEOUT_US → s'.env.pwm.hasEdge e = s.env.pwm.hasEdge e) →
      ∃ t t', exec .measure s = .next t ∧ exec .measure s' = .next t' ∧ t'.smp_value = t.smp_value ∧
        t'.smp_valid = t.smp_valid ∧ t'.tau = t.tau ∧ t'.t_c = t.t_c

/-! ### ACCUM -/

/-- R130: the sample counts as 0 when invalid; a full window emits the floor-mean and is cleared; nothing else changes. -/
def Obligations.AccumFillsAndEmitsWindow : Prop :=
  ∀ (s : State) (v : Nat), s.cfg.wf = true → (s.smp_valid = true → v = s.smp_value) → (s.smp_valid = false → v = 0) →
    (s.avg_count + 1 ≠ s.cfg.PWM_FREQUENCY / s.cfg.DETERMINE_FREQ →
        exec .accum s = .next
          { s with avg_sum := s.avg_sum + v, avg_count := s.avg_count + 1, phase := 0x8#4 }) ∧
      (s.avg_count + 1 = s.cfg.PWM_FREQUENCY / s.cfg.DETERMINE_FREQ →
        exec .accum s = .next
          { s with
            tgt_value := (s.avg_sum + v) / (s.cfg.PWM_FREQUENCY / s.cfg.DETERMINE_FREQ)
            tgt_pending := true
            avg_sum := 0
            avg_count := 0
            phase := 0x7#4 })

/-- R133 (the spec marks it derived): W ACCUMs that start with an empty window emit the floor-mean of their samples with the
last one and not before, and leave the window empty. -/
def Obligations.WindowEmitsFloorMean : Prop :=
  ∀ (s : State) (samples : List (Nat × Bool)), s.cfg.wf = true → s.avg_count = 0 → s.avg_sum = 0 →
    s.tgt_pending = false → samples.length = s.cfg.W →
      (∃ t, accumAll samples s = .next t ∧ t.tgt_pending = true ∧
        t.tgt_value = (samples.map contribution).sum / s.cfg.W ∧ t.avg_sum = 0 ∧ t.avg_count = 0 ∧
        t.phase = 0x7#4) ∧
      ∀ n, n < s.cfg.W → ∃ t, accumAll (samples.take n) s = .next t ∧ t.tgt_pending = false ∧ t.avg_count = n

/-! ### ZRUN and FORCE0 -/

/-- R150: a nonzero sample goes back to B; a zero sample counts up to N + 1, fires on reaching it, and does nothing more once
there. Nothing else changes. -/
def Obligations.ZrunCountsAndFires : Prop :=
  ∀ (s : State) (v : Nat), s.cfg.wf = true → (s.smp_valid = true → v = s.smp_value) → (s.smp_valid = false → v = 0) →
    (v ≠ 0 → exec .zrun s = .next { s with zr_count := s.cfg.ZERO_RUN_BASELINE, phase := 0x6#4 }) ∧
      (v = 0 → s.zr_count < s.cfg.ZERO_RUN_THRESHOLD →
        exec .zrun s = .next { s with zr_count := s.zr_count + 1, phase := 0x6#4 }) ∧
      (v = 0 → s.zr_count = s.cfg.ZERO_RUN_THRESHOLD →
        exec .zrun s = .next { s with zr_count := s.zr_count + 1, force_pending := true, phase := 0x5#4 }) ∧
      (v = 0 → s.cfg.ZERO_RUN_THRESHOLD < s.zr_count → exec .zrun s = .next { s with phase := 0x6#4 })

/-- R152 and R154 (the spec marks them derived): from the baseline, with the latch consumed in between, the m-th consecutive
zero fires exactly when `m = N - B + 1`: not before, and never again. -/
def Obligations.ZerosNeededToFire : Prop :=
  ∀ (s : State) (m : Nat), s.cfg.wf = true → s.zr_count = s.cfg.ZERO_RUN_BASELINE → s.effectiveSample = 0 →
    ∃ t, execTimes .zrun m s = .next t ∧
      t.zr_count = min (s.cfg.ZERO_RUN_BASELINE + m) (s.cfg.ZERO_RUN_THRESHOLD + 1) ∧
      ∃ u, exec .zrun (t.setForce false) = .next u ∧
        (u.force_pending = true ↔ (m : Int) + 1 = s.cfg.ZERO_RUN_THRESHOLD - s.cfg.ZERO_RUN_BASELINE + 1)

/-- R151: FORCE0 sets the ramp idle at 0 and clears the window and the latch, at the cycle's time; nothing else changes. -/
def Obligations.Force0ClearsRampAndWindow : Prop :=
  ∀ s : State, s.cfg.wf = true →
    exec .force0 s = .next
      { s with
        cur := 0, tgt := 0, start_duty := 0, start_time := s.t_c, duration := 0, kind := .none, avg_sum := 0
        avg_count := 0, force_pending := false, phase := 0x8#4 }

/-- R304 item 1: when the firing zero is the sample that would close the window, the force wins: no mean is emitted, the
window is cleared, and this cycle drives 0. -/
def Obligations.ForceWinsOverClosingWindow : Prop :=
  ∀ s : State, BlockInv s → s.stream = [] → s.phase = encode .zrun → s.effectiveSample = 0 →
    s.zr_count = s.cfg.ZERO_RUN_THRESHOLD → s.avg_count + 1 = s.cfg.W → zeroDrivesZero s.cfg →
      ∃ t, Host.Core.run Sys2Proof.core 4 s = .next t ∧ wordsRun 4 s = [4#4, 5#4, 8#4, 9#4] ∧ t.tgt_pending = false ∧
        t.tgt_value = s.tgt_value ∧ t.avg_sum = 0 ∧ t.avg_count = 0 ∧ t.pwm_out = 0

/-! ### RETARGET and RTICK -/

/-- R171: a change within IGNORE_RANGE is applied at once, with no ramp. -/
def Obligations.RetargetWithinIgnoreRange : Prop :=
  ∀ (s : State) (T : Nat), s.cfg.wf = true → T = min s.tgt_value s.cfg.RESOLUTION →
    ((T : Int) - s.cur).natAbs ≤ s.cfg.IGNORE_RANGE →
      exec .retarget s = .next
        { s with
          cur := T, tgt := T, start_duty := T, start_time := s.t_c, duration := 0, kind := .none
          tgt_pending := false, phase := 0x8#4 }

/-- R173: a start from 0 jumps straight to a target of at most LOW_JUMP_LIMIT; otherwise it jumps to LOW_JUMP_LIMIT and ramps
the rest over SOFT_START_TIME (not zero; see RetargetZeroLengthRamp). -/
def Obligations.RetargetStartSpecialCase : Prop :=
  ∀ (s : State) (T : Nat), s.cfg.wf = true → T = min s.tgt_value s.cfg.RESOLUTION → s.cur = 0 →
    s.cfg.IGNORE_RANGE < T →
      (T ≤ s.cfg.LOW_JUMP_LIMIT →
        exec .retarget s = .next
          { s with
            cur := T, tgt := T, start_duty := T, start_time := s.t_c, duration := 0, kind := .none
            tgt_pending := false, phase := 0x8#4 }) ∧
      (s.cfg.LOW_JUMP_LIMIT < T → 0 < s.cfg.SOFT_START_TIME →
        exec .retarget s = .next
          { s with
            cur := s.cfg.LOW_JUMP_LIMIT, tgt := T, start_duty := s.cfg.LOW_JUMP_LIMIT, start_time := s.t_c
            duration := s.cfg.SOFT_START_TIME * 1000, kind := .start, tgt_pending := false, phase := 0x8#4 })

/-- R172: outside the ignore range, the change is a start, a stop or a transition by whether the driven duty and the target
are 0, and its ramp takes that kind's time, in microseconds (not zero; see RetargetZeroLengthRamp). The start is past
LOW_JUMP_LIMIT, where it ramps; RetargetStartSpecialCase has what R173 makes of it. -/
def Obligations.RetargetClassifiesTheChange : Prop :=
  ∀ (s : State) (T : Nat), s.cfg.wf = true → T = min s.tgt_value s.cfg.RESOLUTION →
    s.cfg.IGNORE_RANGE < ((T : Int) - s.cur).natAbs →
      (s.cur = 0 → s.cfg.LOW_JUMP_LIMIT < T → 0 < s.cfg.SOFT_START_TIME →
        ∃ t, exec .retarget s = .next t ∧ t.kind = .start ∧ t.duration = s.cfg.SOFT_START_TIME * 1000) ∧
      (s.cur ≠ 0 → T = 0 → 0 < s.cfg.SOFT_STOP_TIME →
        exec .retarget s = .next
          { s with
            tgt := 0, start_duty := s.cur, start_time := s.t_c, duration := s.cfg.SOFT_STOP_TIME * 1000, kind := .stop
            tgt_pending := false, phase := 0x8#4 }) ∧
      (s.cur ≠ 0 → T ≠ 0 → 0 < s.cfg.SOFT_TRANSITION_TIME →
        exec .retarget s = .next
          { s with
            tgt := T, start_duty := s.cur, start_time := s.t_c, duration := s.cfg.SOFT_TRANSITION_TIME * 1000
            kind := .transition, tgt_pending := false, phase := 0x8#4 })

/-- R174: a ramp whose configured time is 0 completes at once, in RETARGET. -/
def Obligations.RetargetZeroLengthRamp : Prop :=
  ∀ (s : State) (T : Nat), s.cfg.wf = true → T = min s.tgt_value s.cfg.RESOLUTION →
    s.cfg.IGNORE_RANGE < ((T : Int) - s.cur).natAbs →
    ((s.cur = 0 ∧ s.cfg.LOW_JUMP_LIMIT < T ∧ s.cfg.SOFT_START_TIME = 0) ∨
        (s.cur ≠ 0 ∧ T = 0 ∧ s.cfg.SOFT_STOP_TIME = 0) ∨
        (s.cur ≠ 0 ∧ T ≠ 0 ∧ s.cfg.SOFT_TRANSITION_TIME = 0)) →
      exec .retarget s = .next
        { s with
          cur := T, tgt := T, start_duty := T, start_time := s.t_c, duration := 0, kind := .none
          tgt_pending := false, phase := 0x8#4 }

/-- R175 item 2 (the spec marks it derived): a new target forgets the ramp in progress; the setup depends on the driven duty,
the target, the time and the configuration alone. -/
def Obligations.RetargetForgetsTheOldRamp : Prop :=
  ∀ s s' : State, s.cfg.wf = true → s'.cfg = s.cfg → s'.cur = s.cur → s'.tgt_value = s.tgt_value → s'.t_c = s.t_c →
    ∃ t t', exec .retarget s = .next t ∧ exec .retarget s' = .next t' ∧ t'.cur = t.cur ∧ t'.tgt = t.tgt ∧
      t'.start_duty = t.start_duty ∧ t'.start_time = t.start_time ∧ t'.duration = t.duration ∧ t'.kind = t.kind

/-- R176 with R177: the control tick. `e` is the elapsed time on the wrapping time base; the quotient is rounded toward zero,
so it is taken off a falling ramp as it is added to a rising one. Nothing but `cur`, `kind` and the phase changes. -/
def Obligations.RtickAdvancesTheRamp : Prop :=
  ∀ (s : State) (e : Nat), s.cfg.wf = true →
    (e : Int) = ((s.t_c : Int) - s.start_time) % (2 ^ s.cfg.TIME_WIDTH : Nat) →
      (s.kind = .none → exec .rtick s = .next { s with phase := 0x9#4 }) ∧
      (s.kind ≠ .none → s.duration ≤ e →
        exec .rtick s = .next { s with cur := s.tgt, kind := .none, phase := 0x9#4 }) ∧
      (s.kind ≠ .none → e < s.duration → s.start_duty ≤ s.tgt →
        exec .rtick s = .next
          { s with cur := s.start_duty + (s.tgt - s.start_duty) * e / s.duration, phase := 0x9#4 }) ∧
      (s.kind ≠ .none → e < s.duration → s.tgt < s.start_duty →
        exec .rtick s = .next
          { s with cur := s.start_duty - (s.start_duty - s.tgt) * e / s.duration, phase := 0x9#4 })

/-- R179 (the spec marks it derived): over two ticks of one ramp at increasing elapsed times the duty moves toward the target
monotonically, stays between the ramp's ends, and is the target exactly once the ramp's time is over. -/
def Obligations.RampIsMonotoneAndExact : Prop :=
  ∀ (s : State) (now1 now2 : Nat), s.cfg.wf = true → s.kind ≠ .none → 0 < s.duration →
    now1 < 2 ^ s.cfg.TIME_WIDTH → now2 < 2 ^ s.cfg.TIME_WIDTH →
    modSub now1 s.start_time s.cfg.TIME_WIDTH ≤ modSub now2 s.start_time s.cfg.TIME_WIDTH →
      ∃ t u, exec .rtick { s with t_c := now1 } = .next t ∧ exec .rtick { s with t_c := now2 } = .next u ∧
        (s.start_duty ≤ s.tgt → s.start_duty ≤ t.cur ∧ t.cur ≤ u.cur ∧ u.cur ≤ s.tgt) ∧
        (s.tgt ≤ s.start_duty → s.tgt ≤ u.cur ∧ u.cur ≤ t.cur ∧ t.cur ≤ s.start_duty) ∧
        (s.duration ≤ modSub now2 s.start_time s.cfg.TIME_WIDTH → u.cur = s.tgt ∧ u.kind = .none)

/-- R337 (the spec marks it derived): the modular elapsed time is the true one, across a wrap of NOW, as long as the true one is
below 2^TIME_WIDTH: the ramp completes at a tick exactly when its true time is over. -/
def Obligations.RampTimingSurvivesWrap : Prop :=
  ∀ (s : State) (τ_start : Nat), s.cfg.wf = true → TimeInv s → s.kind ≠ .none → 0 < s.duration →
    s.start_time = nowAt s.cfg τ_start → τ_start ≤ s.tau → s.tau - τ_start < 2 ^ s.cfg.TIME_WIDTH →
      ∃ t, exec .rtick s = .next t ∧ (t.kind = .none ↔ s.duration ≤ s.tau - τ_start) ∧
        (s.duration ≤ s.tau - τ_start → t.cur = s.tgt)

/-- R180 (the spec marks it derived): a target within the ignore range is reached exactly after the same cycle's RTICK. -/
def Obligations.IgnoreRangeReachedInOneTick : Prop :=
  ∀ (s : State) (T : Nat), s.cfg.wf = true → T = min s.tgt_value s.cfg.RESOLUTION →
    ((T : Int) - s.cur).natAbs ≤ s.cfg.IGNORE_RANGE →
      ∃ t, execList [.retarget, .rtick] s = .next t ∧ t.cur = T ∧ t.tgt = T ∧ t.kind = .none

/-- R176, corner cases: the RTICK of the cycle whose RETARGET set up a ramp sees elapsed 0 and leaves `cur = start_duty`, in
every case of the decision sequence. -/
def Obligations.NewRampIsTickedAtElapsedZero : Prop :=
  ∀ s : State, s.cfg.wf = true →
    ∃ t u, exec .retarget s = .next t ∧ exec .rtick t = .next u ∧ u.cur = t.cur ∧ u.cur = t.start_duty ∧
      u.kind = t.kind

/-! ### DIRUPD -/

/-- R210 with R211 and R213: an open gate latches `DIR_IN XOR DIR_INVERT` and defines the direction; a closed one holds both
registers. Nothing else changes but the phase. -/
def Obligations.DirupdLatchesWhenGateOpen : Prop :=
  ∀ s : State, s.cfg.wf = true →
    (s.cfg.DIR_GATE = false ∨ s.cur = 0 →
        exec .dirupd s = .next
          { s with
            dir_latched := s.env.dir_level s.tau ^^ s.cfg.DIR_INVERT
            dir_valid := true
            phase := 0x4#4 }) ∧
      (s.cfg.DIR_GATE = true → s.cur ≠ 0 → exec .dirupd s = .next { s with phase := 0x4#4 })

/-- R214 and R30: the two direction outputs are never both asserted, exactly one is once the direction is defined, none before;
CW is the one whose level is CW_EFF_LEVEL. -/
def Obligations.DirectionOutputsExclude : Prop :=
  ∀ s : State, ¬(s.CW = true ∧ s.CCW = true) ∧ (s.dir_valid = true → (s.CW ^^ s.CCW) = true) ∧
    (s.dir_valid = false → s.CW = false ∧ s.CCW = false) ∧
    (s.CW = true ↔ s.dir_valid = true ∧ s.dir_latched = s.cfg.CW_EFF_LEVEL)

/-- R213 and R333: with the gate enabled, the H-bridge sees a direction change only while PWM_OUT carries 0, or by RESET, which
drops all outputs at once. It rests on `DrivenInv`, which the same statement says every step keeps. -/
def Obligations.DirectionChangesOnlyAtZeroOutput : Prop :=
  ∀ s t : State, s.cfg.DIR_GATE = true → zeroDrivesZero s.cfg → DrivenInv s → step s = .next t →
    DrivenInv t ∧
      ((t.CW ≠ s.CW ∨ t.CCW ≠ s.CCW) →
        (decode (nextWord s) = some .dirupd ∧ s.cur = 0 ∧ s.pwm_out = 0) ∨
          (decode (nextWord s) = some .reset ∧ t.pwm_out = 0))

/-! ### OUTWR -/

/-- R230 with R231: OUTWR drives the duty, or its calibrated image; nothing else changes but the phase. -/
def Obligations.OutwrDrivesTheDuty : Prop :=
  ∀ s : State, s.cfg.wf = true →
    (s.cfg.CAL_ENABLE = false → exec .outwr s = .next { s with pwm_out := s.cur, phase := 0x2#4 }) ∧
      (s.cfg.CAL_ENABLE = true → s.cur = 0 → s.cfg.CAL_ZERO_PASSTHROUGH = true →
        exec .outwr s = .next { s with pwm_out := 0, phase := 0x2#4 }) ∧
      (s.cfg.CAL_ENABLE = true → (s.cur ≠ 0 ∨ s.cfg.CAL_ZERO_PASSTHROUGH = false) →
        exec .outwr s = .next
          { s with
            pwm_out := s.cfg.CAL_LOWER + s.cur * (s.cfg.CAL_UPPER - s.cfg.CAL_LOWER) / s.cfg.RESOLUTION
            phase := 0x2#4 })

/-- R232 and the derived sentence of R231: the calibration table has one entry per duty and OUTWR reads it; the map reaches
CAL_UPPER at full scale, never exceeds it, and does not decrease on `1 .. RESOLUTION`. -/
def Obligations.CalibrationMapIsMonotone : Prop :=
  ∀ c : Config, c.wf = true → c.CAL_ENABLE = true →
    (calibrationTable c).length = c.RESOLUTION + 1 ∧
      (∀ d, d ≤ c.RESOLUTION → (calibrationTable c)[d]? = some (outputValue c d) ∧ outputValue c d ≤ c.CAL_UPPER) ∧
      outputValue c c.RESOLUTION = c.CAL_UPPER ∧
      ∀ d d', 1 ≤ d → d ≤ d' → d' ≤ c.RESOLUTION → outputValue c d ≤ outputValue c d'

/-! ### The whole machine -/

/-- R34: which operation sets and which clears each status flag; no operation writes a flag outside this table. RESET, the
table's last column, clears every flag and is left out. -/
def Obligations.FlagsHaveOneSetterAndOneClearer : Prop :=
  ∀ (i : Instr) (s t : State), i ≠ .reset → exec i s = .next t →
    (t.smp_valid ≠ s.smp_valid → i = .measure) ∧
      (s.tgt_pending = false → t.tgt_pending = true → i = .accum) ∧
      (s.tgt_pending = true → t.tgt_pending = false → i = .retarget) ∧
      (s.force_pending = false → t.force_pending = true → i = .zrun) ∧
      (s.force_pending = true → t.force_pending = false → i = .force0) ∧
      (s.dir_valid = false → t.dir_valid = true → i = .dirupd) ∧ (s.dir_valid = true → t.dir_valid = true)

/-- R72 (the spec marks it derived): PWM_OUT changes only in OUTWR and CW and CCW only in DIRUPD; RESET (R250) changes all
three. -/
def Obligations.OutputsChangeOnlyInTheirDriver : Prop :=
  ∀ (i : Instr) (s t : State), exec i s = .next t →
    (t.pwmOutPort ≠ s.pwmOutPort → i = .outwr ∨ i = .reset) ∧
      (t.CW ≠ s.CW ∨ t.CCW ≠ s.CCW → i = .dirupd ∨ i = .reset)

/-- R35 (the spec marks it derived) with the ranges of R10: every step keeps the invariant, from every state that has it, with
or without a stream. That an uncalibrated duty fits the output is part of well-formedness (log entry 4). -/
def Obligations.EveryStepKeepsInvariant : Prop :=
  ∀ s t : State, BlockInv s → step s = .next t → BlockInv t

/-- R35 at reset. -/
def Obligations.ResetStateHasInvariant : Prop := BlockInv State.reset ∧ DrivenInv State.reset

/-- R10 (the spec marks it derived): in every state that has the invariant each register that holds an integer fits its width,
`zr_count` in two's complement, and so do NOW and the transient sum and count of ACCUM; a kind has a two-bit code (KindCodes),
and a flag is a bit by its type. -/
def Obligations.RegistersFitTheirWidths : Prop :=
  ∀ s : State, BlockInv s →
    s.smp_value < 2 ^ s.cfg.dutyW ∧ s.tgt_value < 2 ^ s.cfg.dutyW ∧ s.cur < 2 ^ s.cfg.dutyW ∧
      s.tgt < 2 ^ s.cfg.dutyW ∧ s.start_duty < 2 ^ s.cfg.dutyW ∧ s.pwm_out < 2 ^ s.cfg.outW ∧
      s.avg_sum + s.effectiveSample < 2 ^ s.cfg.sumW ∧ s.avg_count + 1 < 2 ^ s.cfg.countW ∧
      (-(2 : Int) ^ (s.cfg.zeroRunW - 1) ≤ s.zr_count ∧ s.zr_count < (2 : Int) ^ (s.cfg.zeroRunW - 1)) ∧
      s.t_c < 2 ^ s.cfg.TIME_WIDTH ∧ s.start_time < 2 ^ s.cfg.TIME_WIDTH ∧
      nowAt s.cfg s.tau < 2 ^ s.cfg.TIME_WIDTH ∧ s.duration < 2 ^ (s.cfg.TIME_WIDTH - 1)

/-- R254 and R300: the block never stops: from every state that has the invariant, with no stream to check, it runs on for any
number of steps, and keeps the invariant. -/
def Obligations.TheBlockNeverStops : Prop :=
  ∀ (s : State) (n : Nat), BlockInv s → s.stream = [] →
    ∃ t, Host.Core.run Sys2Proof.core n s = .next t ∧ BlockInv t ∧ t.stream = []

/-- R252: from a MEASURE the block runs exactly one of the three operation strings and is at a MEASURE again; the cycle takes
between 1 and TIMEOUT_US microseconds. -/
def Obligations.ControlCycleIsOneOfThreeStrings : Prop :=
  ∀ s : State, s.cfg.wf = true → s.stream = [] → s.phase = encode .measure →
    ∃ (k : CycleCase) (t : State), Host.Core.run Sys2Proof.core (cycleOps k).length s = .next t ∧
      wordsRun (cycleOps k).length s = encodeTrace (cycleOps k) ∧ t.phase = encode .measure ∧ t.stream = [] ∧
      s.tau < t.tau ∧ t.tau ≤ s.tau + s.cfg.TIMEOUT_US ∧ t.pwm_out = outputValue t.cfg t.cur

/-- R331 (the spec marks it derived): with duty 0 driven as 0, the output stays 0 until the first RETARGET: every step that is not
one keeps the idle, undriven state. -/
def Obligations.OutputStaysZeroUntilRetarget : Prop :=
  ∀ s t : State, zeroDrivesZero s.cfg → s.cur = 0 → s.kind = .none → s.pwm_out = 0 → step s = .next t →
    decode (nextWord s) ≠ some .retarget → t.cur = 0 ∧ t.kind = .none ∧ t.pwm_out = 0

/-- R301, loss of input signal: "output ramps/forces toward zero rather than freezing at a stale value". When PWM_IN has no edge
left, the zero-force event drives the output to 0 by the end of the cycle of the (N - zr_count + 1)-th sample, whatever ramp
is running; a counter that has already fired is left out. -/
def Obligations.SignalLossForcesOutputToZero : Prop :=
  ∀ s : State, BlockInv s → s.stream = [] → s.phase = encode .measure → zeroDrivesZero s.cfg →
    (∀ e, s.env.pwm.hasEdge e = true → e ≤ s.tau) → s.zr_count ≤ s.cfg.ZERO_RUN_THRESHOLD →
      ∃ (n : Nat) (t : State), (n : Int) ≤ 7 * (s.cfg.ZERO_RUN_THRESHOLD - s.zr_count + 1) ∧
        Host.Core.run Sys2Proof.core n s = .next t ∧ t.phase = encode .measure ∧ t.cur = 0 ∧ t.pwm_out = 0 ∧
        (t.tau : Int) = s.tau + (s.cfg.ZERO_RUN_THRESHOLD - s.zr_count + 1) * s.cfg.TIMEOUT_US

/-- Which configurations are refused: exactly those in which a clause of R8 fails or in which, without calibration, a duty does
not fit the output, which R230 and D27 require beside R8's list. That the model refuses the latter is its reading, log
entry 4. -/
def Obligations.RefusedConfigurationsAreExactlyThese : Prop :=
  ∀ (i : Instr) (s : State),
    let wellFormed : Prop :=
      1 ≤ s.cfg.RESOLUTION ∧ 1 ≤ s.cfg.PWM_FREQUENCY ∧
        (1 ≤ s.cfg.DETERMINE_FREQ ∧ s.cfg.DETERMINE_FREQ ≤ s.cfg.PWM_FREQUENCY) ∧
        (1 ≤ s.cfg.CYCLES_PARSED ∧ 1 ≤ s.cfg.CYCLES_PARSED * 1000000 / s.cfg.PWM_FREQUENCY) ∧
        s.cfg.LOW_JUMP_LIMIT ≤ s.cfg.RESOLUTION ∧ s.cfg.ZERO_RUN_BASELINE ≤ -1 ∧ 1 ≤ s.cfg.OUT_MAX ∧
        (s.cfg.CAL_ENABLE = true → s.cfg.CAL_LOWER ≤ s.cfg.CAL_UPPER ∧ s.cfg.CAL_UPPER ≤ s.cfg.OUT_MAX) ∧
        2 ≤ s.cfg.TIME_WIDTH ∧ s.cfg.SOFT_START_TIME * 1000 < 2 ^ (s.cfg.TIME_WIDTH - 1) ∧
        s.cfg.SOFT_STOP_TIME * 1000 < 2 ^ (s.cfg.TIME_WIDTH - 1) ∧
        s.cfg.SOFT_TRANSITION_TIME * 1000 < 2 ^ (s.cfg.TIME_WIDTH - 1) ∧
        s.cfg.CYCLES_PARSED * 1000000 / s.cfg.PWM_FREQUENCY < 2 ^ (s.cfg.TIME_WIDTH - 1)
    let outputFits : Prop := s.cfg.CAL_ENABLE = false → s.cfg.RESOLUTION ≤ s.cfg.OUT_MAX
    (exec i s = .refused .badConfig ↔ ¬(wellFormed ∧ outputFits)) ∧
      (step s = .refused .badConfig ↔ ¬(wellFormed ∧ outputFits))
end

