-- ==== Sys2Proof/Laws/Config.lean ====
section
/-! SUPPORT. What a well-formed configuration gives (00_scope.md R8), and that a register of the width of R10 holds its range. -/

namespace Sys2Proof

/-- The clauses of R8, each as a proposition. -/
theorem Config.wf_iff (c : Config) : c.wf = true ↔
    1 ≤ c.RESOLUTION ∧ 1 ≤ c.PWM_FREQUENCY ∧ (1 ≤ c.DETERMINE_FREQ ∧ c.DETERMINE_FREQ ≤ c.PWM_FREQUENCY) ∧
      (1 ≤ c.CYCLES_PARSED ∧ 1 ≤ c.TIMEOUT_US) ∧ c.LOW_JUMP_LIMIT ≤ c.RESOLUTION ∧ c.ZERO_RUN_BASELINE ≤ -1 ∧
      1 ≤ c.OUT_MAX ∧ (c.CAL_ENABLE = true → c.CAL_LOWER ≤ c.CAL_UPPER ∧ c.CAL_UPPER ≤ c.OUT_MAX) ∧
      (2 ≤ c.TIME_WIDTH ∧ max c.maxRampUs c.TIMEOUT_US < 2 ^ (c.TIME_WIDTH - 1)) ∧
      (c.CAL_ENABLE = false → c.RESOLUTION ≤ c.OUT_MAX) := by
  have hfit : c.CAL_ENABLE = true ∨ c.RESOLUTION ≤ c.OUT_MAX ↔ (c.CAL_ENABLE = false → c.RESOLUTION ≤ c.OUT_MAX) := by
    cases c.CAL_ENABLE <;> simp
  have hcal : (!c.CAL_ENABLE) = true ∨ (c.CAL_LOWER ≤ c.CAL_UPPER ∧ c.CAL_UPPER ≤ c.OUT_MAX) ↔
      (c.CAL_ENABLE = true → c.CAL_LOWER ≤ c.CAL_UPPER ∧ c.CAL_UPPER ≤ c.OUT_MAX) := by
    cases c.CAL_ENABLE <;> simp
  simp only [Config.wf, resolutionOk, pwmFrequencyOk, determineFreqOk, timeoutOk, lowJumpOk, baselineOk, outMaxOk,
    calibrationOk, timeWidthOk, outputFits, hfit, Bool.and_eq_true, Bool.or_eq_true, decide_eq_true_eq, hcal, and_assoc]

theorem Config.resolution_pos {c : Config} (h : c.wf = true) : 0 < c.RESOLUTION := (c.wf_iff.1 h).1

theorem Config.window_pos {c : Config} (h : c.wf = true) : 0 < c.W :=
  Nat.div_pos (c.wf_iff.1 h).2.2.1.2 (c.wf_iff.1 h).2.2.1.1

theorem Config.timeout_pos {c : Config} (h : c.wf = true) : 0 < c.TIMEOUT_US := (c.wf_iff.1 h).2.2.2.1.2

theorem Config.lowJump_le {c : Config} (h : c.wf = true) : c.LOW_JUMP_LIMIT ≤ c.RESOLUTION := (c.wf_iff.1 h).2.2.2.2.1

theorem Config.baseline_neg {c : Config} (h : c.wf = true) : c.ZERO_RUN_BASELINE ≤ -1 := (c.wf_iff.1 h).2.2.2.2.2.1

theorem Config.calibration_le {c : Config} (h : c.wf = true) (he : c.CAL_ENABLE = true) :
    c.CAL_LOWER ≤ c.CAL_UPPER ∧ c.CAL_UPPER ≤ c.OUT_MAX := (c.wf_iff.1 h).2.2.2.2.2.2.2.1 he

theorem Config.times_lt {c : Config} (h : c.wf = true) : max c.maxRampUs c.TIMEOUT_US < 2 ^ (c.TIME_WIDTH - 1) :=
  (c.wf_iff.1 h).2.2.2.2.2.2.2.2.1.2

theorem Config.output_fits {c : Config} (h : c.wf = true) (hc : c.CAL_ENABLE = false) : c.RESOLUTION ≤ c.OUT_MAX :=
  (c.wf_iff.1 h).2.2.2.2.2.2.2.2.2 hc

theorem Config.timeModulus_pos (c : Config) : 0 < c.timeModulus := Nat.two_pow_pos _

/-- R10: a two's complement register of `signedWidth lo hi` bits holds every value `lo .. hi`. -/
theorem signedWidth_holds {v lo : Int} {hi : Nat} (h0 : lo ≤ 0) (hl : lo ≤ v) (hh : v ≤ hi) :
    -(2 : Int) ^ (signedWidth lo hi - 1) ≤ v ∧ v < 2 ^ (signedWidth lo hi - 1) := by
  have hw : signedWidth lo hi - 1 = max (Nat.clog 2 lo.natAbs) (unsignedWidth hi) := rfl
  have h1 : lo.natAbs ≤ 2 ^ (signedWidth lo hi - 1) :=
    Nat.le_trans (Nat.le_pow_clog (by decide) _) (Nat.pow_le_pow_right (by decide) (hw ▸ Nat.le_max_left _ _))
  have h2 : hi + 1 ≤ 2 ^ (signedWidth lo hi - 1) :=
    Nat.le_trans (Nat.le_pow_clog (by decide) _) (Nat.pow_le_pow_right (by decide) (hw ▸ Nat.le_max_right _ _))
  zify at h1 h2
  rw [abs_of_nonpos h0] at h1
  constructor <;> omega

/-- R10: a register of `unsignedWidth n` bits holds every value `0 .. n`. -/
theorem lt_two_pow_unsignedWidth {v n : Nat} (h : v ≤ n) : v < 2 ^ unsignedWidth n :=
  Nat.lt_of_lt_of_le (Nat.lt_succ_of_le h) (Nat.le_pow_clog (by decide) _)

end Sys2Proof
end

