-- ==== Sys2Proof/Laws/State.lean ====
section
/-! SUPPORT. What each named register update leaves in each field: one lemma per field per update, so that no proof
unfolds a record update. -/

namespace Sys2Proof.Machine

variable (s : State)

@[simp] theorem State.setPhase_smp_value (i : Instr) : (s.setPhase i).smp_value = s.smp_value := rfl
@[simp] theorem State.setPhase_smp_valid (i : Instr) : (s.setPhase i).smp_valid = s.smp_valid := rfl
@[simp] theorem State.setPhase_t_c (i : Instr) : (s.setPhase i).t_c = s.t_c := rfl
@[simp] theorem State.setPhase_avg_sum (i : Instr) : (s.setPhase i).avg_sum = s.avg_sum := rfl
@[simp] theorem State.setPhase_avg_count (i : Instr) : (s.setPhase i).avg_count = s.avg_count := rfl
@[simp] theorem State.setPhase_tgt_pending (i : Instr) : (s.setPhase i).tgt_pending = s.tgt_pending := rfl
@[simp] theorem State.setPhase_tgt_value (i : Instr) : (s.setPhase i).tgt_value = s.tgt_value := rfl
@[simp] theorem State.setPhase_zr_count (i : Instr) : (s.setPhase i).zr_count = s.zr_count := rfl
@[simp] theorem State.setPhase_force_pending (i : Instr) : (s.setPhase i).force_pending = s.force_pending := rfl
@[simp] theorem State.setPhase_cur (i : Instr) : (s.setPhase i).cur = s.cur := rfl
@[simp] theorem State.setPhase_tgt (i : Instr) : (s.setPhase i).tgt = s.tgt := rfl
@[simp] theorem State.setPhase_start_duty (i : Instr) : (s.setPhase i).start_duty = s.start_duty := rfl
@[simp] theorem State.setPhase_start_time (i : Instr) : (s.setPhase i).start_time = s.start_time := rfl
@[simp] theorem State.setPhase_duration (i : Instr) : (s.setPhase i).duration = s.duration := rfl
@[simp] theorem State.setPhase_kind (i : Instr) : (s.setPhase i).kind = s.kind := rfl
@[simp] theorem State.setPhase_dir_latched (i : Instr) : (s.setPhase i).dir_latched = s.dir_latched := rfl
@[simp] theorem State.setPhase_dir_valid (i : Instr) : (s.setPhase i).dir_valid = s.dir_valid := rfl
@[simp] theorem State.setPhase_pwm_out (i : Instr) : (s.setPhase i).pwm_out = s.pwm_out := rfl
@[simp] theorem State.setPhase_phase (i : Instr) : (s.setPhase i).phase = encode i := rfl
@[simp] theorem State.setPhase_cfg (i : Instr) : (s.setPhase i).cfg = s.cfg := rfl
@[simp] theorem State.setPhase_env (i : Instr) : (s.setPhase i).env = s.env := rfl
@[simp] theorem State.setPhase_tau (i : Instr) : (s.setPhase i).tau = s.tau := rfl
@[simp] theorem State.setPhase_stream (i : Instr) : (s.setPhase i).stream = s.stream := rfl
@[simp] theorem State.setPhase_resetTimes (i : Instr) : (s.setPhase i).resetTimes = s.resetTimes := rfl

@[simp] theorem State.setSample_smp_value (v : Nat) (ok : Bool) : (s.setSample v ok).smp_value = v := rfl
@[simp] theorem State.setSample_smp_valid (v : Nat) (ok : Bool) : (s.setSample v ok).smp_valid = ok := rfl
@[simp] theorem State.setSample_t_c (v : Nat) (ok : Bool) : (s.setSample v ok).t_c = s.t_c := rfl
@[simp] theorem State.setSample_avg_sum (v : Nat) (ok : Bool) : (s.setSample v ok).avg_sum = s.avg_sum := rfl
@[simp] theorem State.setSample_avg_count (v : Nat) (ok : Bool) : (s.setSample v ok).avg_count = s.avg_count := rfl
@[simp] theorem State.setSample_tgt_pending (v : Nat) (ok : Bool) : (s.setSample v ok).tgt_pending = s.tgt_pending := rfl
@[simp] theorem State.setSample_tgt_value (v : Nat) (ok : Bool) : (s.setSample v ok).tgt_value = s.tgt_value := rfl
@[simp] theorem State.setSample_zr_count (v : Nat) (ok : Bool) : (s.setSample v ok).zr_count = s.zr_count := rfl
@[simp] theorem State.setSample_force_pending (v : Nat) (ok : Bool) : (s.setSample v ok).force_pending = s.force_pending := rfl
@[simp] theorem State.setSample_cur (v : Nat) (ok : Bool) : (s.setSample v ok).cur = s.cur := rfl
@[simp] theorem State.setSample_tgt (v : Nat) (ok : Bool) : (s.setSample v ok).tgt = s.tgt := rfl
@[simp] theorem State.setSample_start_duty (v : Nat) (ok : Bool) : (s.setSample v ok).start_duty = s.start_duty := rfl
@[simp] theorem State.setSample_start_time (v : Nat) (ok : Bool) : (s.setSample v ok).start_time = s.start_time := rfl
@[simp] theorem State.setSample_duration (v : Nat) (ok : Bool) : (s.setSample v ok).duration = s.duration := rfl
@[simp] theorem State.setSample_kind (v : Nat) (ok : Bool) : (s.setSample v ok).kind = s.kind := rfl
@[simp] theorem State.setSample_dir_latched (v : Nat) (ok : Bool) : (s.setSample v ok).dir_latched = s.dir_latched := rfl
@[simp] theorem State.setSample_dir_valid (v : Nat) (ok : Bool) : (s.setSample v ok).dir_valid = s.dir_valid := rfl
@[simp] theorem State.setSample_pwm_out (v : Nat) (ok : Bool) : (s.setSample v ok).pwm_out = s.pwm_out := rfl
@[simp] theorem State.setSample_phase (v : Nat) (ok : Bool) : (s.setSample v ok).phase = s.phase := rfl
@[simp] theorem State.setSample_cfg (v : Nat) (ok : Bool) : (s.setSample v ok).cfg = s.cfg := rfl
@[simp] theorem State.setSample_env (v : Nat) (ok : Bool) : (s.setSample v ok).env = s.env := rfl
@[simp] theorem State.setSample_tau (v : Nat) (ok : Bool) : (s.setSample v ok).tau = s.tau := rfl
@[simp] theorem State.setSample_stream (v : Nat) (ok : Bool) : (s.setSample v ok).stream = s.stream := rfl
@[simp] theorem State.setSample_resetTimes (v : Nat) (ok : Bool) : (s.setSample v ok).resetTimes = s.resetTimes := rfl

@[simp] theorem State.setTime_smp_value (τ : Nat) : (s.setTime τ).smp_value = s.smp_value := rfl
@[simp] theorem State.setTime_smp_valid (τ : Nat) : (s.setTime τ).smp_valid = s.smp_valid := rfl
@[simp] theorem State.setTime_t_c (τ : Nat) : (s.setTime τ).t_c = nowAt s.cfg τ := rfl
@[simp] theorem State.setTime_avg_sum (τ : Nat) : (s.setTime τ).avg_sum = s.avg_sum := rfl
@[simp] theorem State.setTime_avg_count (τ : Nat) : (s.setTime τ).avg_count = s.avg_count := rfl
@[simp] theorem State.setTime_tgt_pending (τ : Nat) : (s.setTime τ).tgt_pending = s.tgt_pending := rfl
@[simp] theorem State.setTime_tgt_value (τ : Nat) : (s.setTime τ).tgt_value = s.tgt_value := rfl
@[simp] theorem State.setTime_zr_count (τ : Nat) : (s.setTime τ).zr_count = s.zr_count := rfl
@[simp] theorem State.setTime_force_pending (τ : Nat) : (s.setTime τ).force_pending = s.force_pending := rfl
@[simp] theorem State.setTime_cur (τ : Nat) : (s.setTime τ).cur = s.cur := rfl
@[simp] theorem State.setTime_tgt (τ : Nat) : (s.setTime τ).tgt = s.tgt := rfl
@[simp] theorem State.setTime_start_duty (τ : Nat) : (s.setTime τ).start_duty = s.start_duty := rfl
@[simp] theorem State.setTime_start_time (τ : Nat) : (s.setTime τ).start_time = s.start_time := rfl
@[simp] theorem State.setTime_duration (τ : Nat) : (s.setTime τ).duration = s.duration := rfl
@[simp] theorem State.setTime_kind (τ : Nat) : (s.setTime τ).kind = s.kind := rfl
@[simp] theorem State.setTime_dir_latched (τ : Nat) : (s.setTime τ).dir_latched = s.dir_latched := rfl
@[simp] theorem State.setTime_dir_valid (τ : Nat) : (s.setTime τ).dir_valid = s.dir_valid := rfl
@[simp] theorem State.setTime_pwm_out (τ : Nat) : (s.setTime τ).pwm_out = s.pwm_out := rfl
@[simp] theorem State.setTime_phase (τ : Nat) : (s.setTime τ).phase = s.phase := rfl
@[simp] theorem State.setTime_cfg (τ : Nat) : (s.setTime τ).cfg = s.cfg := rfl
@[simp] theorem State.setTime_env (τ : Nat) : (s.setTime τ).env = s.env := rfl
@[simp] theorem State.setTime_tau (τ : Nat) : (s.setTime τ).tau = τ := rfl
@[simp] theorem State.setTime_stream (τ : Nat) : (s.setTime τ).stream = s.stream := rfl
@[simp] theorem State.setTime_resetTimes (τ : Nat) : (s.setTime τ).resetTimes = s.resetTimes := rfl

@[simp] theorem State.setWindow_smp_value (sum count : Nat) : (s.setWindow sum count).smp_value = s.smp_value := rfl
@[simp] theorem State.setWindow_smp_valid (sum count : Nat) : (s.setWindow sum count).smp_valid = s.smp_valid := rfl
@[simp] theorem State.setWindow_t_c (sum count : Nat) : (s.setWindow sum count).t_c = s.t_c := rfl
@[simp] theorem State.setWindow_avg_sum (sum count : Nat) : (s.setWindow sum count).avg_sum = sum := rfl
@[simp] theorem State.setWindow_avg_count (sum count : Nat) : (s.setWindow sum count).avg_count = count := rfl
@[simp] theorem State.setWindow_tgt_pending (sum count : Nat) : (s.setWindow sum count).tgt_pending = s.tgt_pending := rfl
@[simp] theorem State.setWindow_tgt_value (sum count : Nat) : (s.setWindow sum count).tgt_value = s.tgt_value := rfl
@[simp] theorem State.setWindow_zr_count (sum count : Nat) : (s.setWindow sum count).zr_count = s.zr_count := rfl
@[simp] theorem State.setWindow_force_pending (sum count : Nat) : (s.setWindow sum count).force_pending = s.force_pending := rfl
@[simp] theorem State.setWindow_cur (sum count : Nat) : (s.setWindow sum count).cur = s.cur := rfl
@[simp] theorem State.setWindow_tgt (sum count : Nat) : (s.setWindow sum count).tgt = s.tgt := rfl
@[simp] theorem State.setWindow_start_duty (sum count : Nat) : (s.setWindow sum count).start_duty = s.start_duty := rfl
@[simp] theorem State.setWindow_start_time (sum count : Nat) : (s.setWindow sum count).start_time = s.start_time := rfl
@[simp] theorem State.setWindow_duration (sum count : Nat) : (s.setWindow sum count).duration = s.duration := rfl
@[simp] theorem State.setWindow_kind (sum count : Nat) : (s.setWindow sum count).kind = s.kind := rfl
@[simp] theorem State.setWindow_dir_latched (sum count : Nat) : (s.setWindow sum count).dir_latched = s.dir_latched := rfl
@[simp] theorem State.setWindow_dir_valid (sum count : Nat) : (s.setWindow sum count).dir_valid = s.dir_valid := rfl
@[simp] theorem State.setWindow_pwm_out (sum count : Nat) : (s.setWindow sum count).pwm_out = s.pwm_out := rfl
@[simp] theorem State.setWindow_phase (sum count : Nat) : (s.setWindow sum count).phase = s.phase := rfl
@[simp] theorem State.setWindow_cfg (sum count : Nat) : (s.setWindow sum count).cfg = s.cfg := rfl
@[simp] theorem State.setWindow_env (sum count : Nat) : (s.setWindow sum count).env = s.env := rfl
@[simp] theorem State.setWindow_tau (sum count : Nat) : (s.setWindow sum count).tau = s.tau := rfl
@[simp] theorem State.setWindow_stream (sum count : Nat) : (s.setWindow sum count).stream = s.stream := rfl
@[simp] theorem State.setWindow_resetTimes (sum count : Nat) : (s.setWindow sum count).resetTimes = s.resetTimes := rfl

@[simp] theorem State.latchEmission_smp_value (mean : Nat) : (s.latchEmission mean).smp_value = s.smp_value := rfl
@[simp] theorem State.latchEmission_smp_valid (mean : Nat) : (s.latchEmission mean).smp_valid = s.smp_valid := rfl
@[simp] theorem State.latchEmission_t_c (mean : Nat) : (s.latchEmission mean).t_c = s.t_c := rfl
@[simp] theorem State.latchEmission_avg_sum (mean : Nat) : (s.latchEmission mean).avg_sum = s.avg_sum := rfl
@[simp] theorem State.latchEmission_avg_count (mean : Nat) : (s.latchEmission mean).avg_count = s.avg_count := rfl
@[simp] theorem State.latchEmission_tgt_pending (mean : Nat) : (s.latchEmission mean).tgt_pending = true := rfl
@[simp] theorem State.latchEmission_tgt_value (mean : Nat) : (s.latchEmission mean).tgt_value = mean := rfl
@[simp] theorem State.latchEmission_zr_count (mean : Nat) : (s.latchEmission mean).zr_count = s.zr_count := rfl
@[simp] theorem State.latchEmission_force_pending (mean : Nat) : (s.latchEmission mean).force_pending = s.force_pending := rfl
@[simp] theorem State.latchEmission_cur (mean : Nat) : (s.latchEmission mean).cur = s.cur := rfl
@[simp] theorem State.latchEmission_tgt (mean : Nat) : (s.latchEmission mean).tgt = s.tgt := rfl
@[simp] theorem State.latchEmission_start_duty (mean : Nat) : (s.latchEmission mean).start_duty = s.start_duty := rfl
@[simp] theorem State.latchEmission_start_time (mean : Nat) : (s.latchEmission mean).start_time = s.start_time := rfl
@[simp] theorem State.latchEmission_duration (mean : Nat) : (s.latchEmission mean).duration = s.duration := rfl
@[simp] theorem State.latchEmission_kind (mean : Nat) : (s.latchEmission mean).kind = s.kind := rfl
@[simp] theorem State.latchEmission_dir_latched (mean : Nat) : (s.latchEmission mean).dir_latched = s.dir_latched := rfl
@[simp] theorem State.latchEmission_dir_valid (mean : Nat) : (s.latchEmission mean).dir_valid = s.dir_valid := rfl
@[simp] theorem State.latchEmission_pwm_out (mean : Nat) : (s.latchEmission mean).pwm_out = s.pwm_out := rfl
@[simp] theorem State.latchEmission_phase (mean : Nat) : (s.latchEmission mean).phase = s.phase := rfl
@[simp] theorem State.latchEmission_cfg (mean : Nat) : (s.latchEmission mean).cfg = s.cfg := rfl
@[simp] theorem State.latchEmission_env (mean : Nat) : (s.latchEmission mean).env = s.env := rfl
@[simp] theorem State.latchEmission_tau (mean : Nat) : (s.latchEmission mean).tau = s.tau := rfl
@[simp] theorem State.latchEmission_stream (mean : Nat) : (s.latchEmission mean).stream = s.stream := rfl
@[simp] theorem State.latchEmission_resetTimes (mean : Nat) : (s.latchEmission mean).resetTimes = s.resetTimes := rfl

@[simp] theorem State.clearEmission_smp_value : (s.clearEmission).smp_value = s.smp_value := rfl
@[simp] theorem State.clearEmission_smp_valid : (s.clearEmission).smp_valid = s.smp_valid := rfl
@[simp] theorem State.clearEmission_t_c : (s.clearEmission).t_c = s.t_c := rfl
@[simp] theorem State.clearEmission_avg_sum : (s.clearEmission).avg_sum = s.avg_sum := rfl
@[simp] theorem State.clearEmission_avg_count : (s.clearEmission).avg_count = s.avg_count := rfl
@[simp] theorem State.clearEmission_tgt_pending : (s.clearEmission).tgt_pending = false := rfl
@[simp] theorem State.clearEmission_tgt_value : (s.clearEmission).tgt_value = s.tgt_value := rfl
@[simp] theorem State.clearEmission_zr_count : (s.clearEmission).zr_count = s.zr_count := rfl
@[simp] theorem State.clearEmission_force_pending : (s.clearEmission).force_pending = s.force_pending := rfl
@[simp] theorem State.clearEmission_cur : (s.clearEmission).cur = s.cur := rfl
@[simp] theorem State.clearEmission_tgt : (s.clearEmission).tgt = s.tgt := rfl
@[simp] theorem State.clearEmission_start_duty : (s.clearEmission).start_duty = s.start_duty := rfl
@[simp] theorem State.clearEmission_start_time : (s.clearEmission).start_time = s.start_time := rfl
@[simp] theorem State.clearEmission_duration : (s.clearEmission).duration = s.duration := rfl
@[simp] theorem State.clearEmission_kind : (s.clearEmission).kind = s.kind := rfl
@[simp] theorem State.clearEmission_dir_latched : (s.clearEmission).dir_latched = s.dir_latched := rfl
@[simp] theorem State.clearEmission_dir_valid : (s.clearEmission).dir_valid = s.dir_valid := rfl
@[simp] theorem State.clearEmission_pwm_out : (s.clearEmission).pwm_out = s.pwm_out := rfl
@[simp] theorem State.clearEmission_phase : (s.clearEmission).phase = s.phase := rfl
@[simp] theorem State.clearEmission_cfg : (s.clearEmission).cfg = s.cfg := rfl
@[simp] theorem State.clearEmission_env : (s.clearEmission).env = s.env := rfl
@[simp] theorem State.clearEmission_tau : (s.clearEmission).tau = s.tau := rfl
@[simp] theorem State.clearEmission_stream : (s.clearEmission).stream = s.stream := rfl
@[simp] theorem State.clearEmission_resetTimes : (s.clearEmission).resetTimes = s.resetTimes := rfl

@[simp] theorem State.setZeroCount_smp_value (c : Int) : (s.setZeroCount c).smp_value = s.smp_value := rfl
@[simp] theorem State.setZeroCount_smp_valid (c : Int) : (s.setZeroCount c).smp_valid = s.smp_valid := rfl
@[simp] theorem State.setZeroCount_t_c (c : Int) : (s.setZeroCount c).t_c = s.t_c := rfl
@[simp] theorem State.setZeroCount_avg_sum (c : Int) : (s.setZeroCount c).avg_sum = s.avg_sum := rfl
@[simp] theorem State.setZeroCount_avg_count (c : Int) : (s.setZeroCount c).avg_count = s.avg_count := rfl
@[simp] theorem State.setZeroCount_tgt_pending (c : Int) : (s.setZeroCount c).tgt_pending = s.tgt_pending := rfl
@[simp] theorem State.setZeroCount_tgt_value (c : Int) : (s.setZeroCount c).tgt_value = s.tgt_value := rfl
@[simp] theorem State.setZeroCount_zr_count (c : Int) : (s.setZeroCount c).zr_count = c := rfl
@[simp] theorem State.setZeroCount_force_pending (c : Int) : (s.setZeroCount c).force_pending = s.force_pending := rfl
@[simp] theorem State.setZeroCount_cur (c : Int) : (s.setZeroCount c).cur = s.cur := rfl
@[simp] theorem State.setZeroCount_tgt (c : Int) : (s.setZeroCount c).tgt = s.tgt := rfl
@[simp] theorem State.setZeroCount_start_duty (c : Int) : (s.setZeroCount c).start_duty = s.start_duty := rfl
@[simp] theorem State.setZeroCount_start_time (c : Int) : (s.setZeroCount c).start_time = s.start_time := rfl
@[simp] theorem State.setZeroCount_duration (c : Int) : (s.setZeroCount c).duration = s.duration := rfl
@[simp] theorem State.setZeroCount_kind (c : Int) : (s.setZeroCount c).kind = s.kind := rfl
@[simp] theorem State.setZeroCount_dir_latched (c : Int) : (s.setZeroCount c).dir_latched = s.dir_latched := rfl
@[simp] theorem State.setZeroCount_dir_valid (c : Int) : (s.setZeroCount c).dir_valid = s.dir_valid := rfl
@[simp] theorem State.setZeroCount_pwm_out (c : Int) : (s.setZeroCount c).pwm_out = s.pwm_out := rfl
@[simp] theorem State.setZeroCount_phase (c : Int) : (s.setZeroCount c).phase = s.phase := rfl
@[simp] theorem State.setZeroCount_cfg (c : Int) : (s.setZeroCount c).cfg = s.cfg := rfl
@[simp] theorem State.setZeroCount_env (c : Int) : (s.setZeroCount c).env = s.env := rfl
@[simp] theorem State.setZeroCount_tau (c : Int) : (s.setZeroCount c).tau = s.tau := rfl
@[simp] theorem State.setZeroCount_stream (c : Int) : (s.setZeroCount c).stream = s.stream := rfl
@[simp] theorem State.setZeroCount_resetTimes (c : Int) : (s.setZeroCount c).resetTimes = s.resetTimes := rfl

@[simp] theorem State.setForce_smp_value (b : Bool) : (s.setForce b).smp_value = s.smp_value := rfl
@[simp] theorem State.setForce_smp_valid (b : Bool) : (s.setForce b).smp_valid = s.smp_valid := rfl
@[simp] theorem State.setForce_t_c (b : Bool) : (s.setForce b).t_c = s.t_c := rfl
@[simp] theorem State.setForce_avg_sum (b : Bool) : (s.setForce b).avg_sum = s.avg_sum := rfl
@[simp] theorem State.setForce_avg_count (b : Bool) : (s.setForce b).avg_count = s.avg_count := rfl
@[simp] theorem State.setForce_tgt_pending (b : Bool) : (s.setForce b).tgt_pending = s.tgt_pending := rfl
@[simp] theorem State.setForce_tgt_value (b : Bool) : (s.setForce b).tgt_value = s.tgt_value := rfl
@[simp] theorem State.setForce_zr_count (b : Bool) : (s.setForce b).zr_count = s.zr_count := rfl
@[simp] theorem State.setForce_force_pending (b : Bool) : (s.setForce b).force_pending = b := rfl
@[simp] theorem State.setForce_cur (b : Bool) : (s.setForce b).cur = s.cur := rfl
@[simp] theorem State.setForce_tgt (b : Bool) : (s.setForce b).tgt = s.tgt := rfl
@[simp] theorem State.setForce_start_duty (b : Bool) : (s.setForce b).start_duty = s.start_duty := rfl
@[simp] theorem State.setForce_start_time (b : Bool) : (s.setForce b).start_time = s.start_time := rfl
@[simp] theorem State.setForce_duration (b : Bool) : (s.setForce b).duration = s.duration := rfl
@[simp] theorem State.setForce_kind (b : Bool) : (s.setForce b).kind = s.kind := rfl
@[simp] theorem State.setForce_dir_latched (b : Bool) : (s.setForce b).dir_latched = s.dir_latched := rfl
@[simp] theorem State.setForce_dir_valid (b : Bool) : (s.setForce b).dir_valid = s.dir_valid := rfl
@[simp] theorem State.setForce_pwm_out (b : Bool) : (s.setForce b).pwm_out = s.pwm_out := rfl
@[simp] theorem State.setForce_phase (b : Bool) : (s.setForce b).phase = s.phase := rfl
@[simp] theorem State.setForce_cfg (b : Bool) : (s.setForce b).cfg = s.cfg := rfl
@[simp] theorem State.setForce_env (b : Bool) : (s.setForce b).env = s.env := rfl
@[simp] theorem State.setForce_tau (b : Bool) : (s.setForce b).tau = s.tau := rfl
@[simp] theorem State.setForce_stream (b : Bool) : (s.setForce b).stream = s.stream := rfl
@[simp] theorem State.setForce_resetTimes (b : Bool) : (s.setForce b).resetTimes = s.resetTimes := rfl

@[simp] theorem State.setCur_smp_value (d : Nat) : (s.setCur d).smp_value = s.smp_value := rfl
@[simp] theorem State.setCur_smp_valid (d : Nat) : (s.setCur d).smp_valid = s.smp_valid := rfl
@[simp] theorem State.setCur_t_c (d : Nat) : (s.setCur d).t_c = s.t_c := rfl
@[simp] theorem State.setCur_avg_sum (d : Nat) : (s.setCur d).avg_sum = s.avg_sum := rfl
@[simp] theorem State.setCur_avg_count (d : Nat) : (s.setCur d).avg_count = s.avg_count := rfl
@[simp] theorem State.setCur_tgt_pending (d : Nat) : (s.setCur d).tgt_pending = s.tgt_pending := rfl
@[simp] theorem State.setCur_tgt_value (d : Nat) : (s.setCur d).tgt_value = s.tgt_value := rfl
@[simp] theorem State.setCur_zr_count (d : Nat) : (s.setCur d).zr_count = s.zr_count := rfl
@[simp] theorem State.setCur_force_pending (d : Nat) : (s.setCur d).force_pending = s.force_pending := rfl
@[simp] theorem State.setCur_cur (d : Nat) : (s.setCur d).cur = d := rfl
@[simp] theorem State.setCur_tgt (d : Nat) : (s.setCur d).tgt = s.tgt := rfl
@[simp] theorem State.setCur_start_duty (d : Nat) : (s.setCur d).start_duty = s.start_duty := rfl
@[simp] theorem State.setCur_start_time (d : Nat) : (s.setCur d).start_time = s.start_time := rfl
@[simp] theorem State.setCur_duration (d : Nat) : (s.setCur d).duration = s.duration := rfl
@[simp] theorem State.setCur_kind (d : Nat) : (s.setCur d).kind = s.kind := rfl
@[simp] theorem State.setCur_dir_latched (d : Nat) : (s.setCur d).dir_latched = s.dir_latched := rfl
@[simp] theorem State.setCur_dir_valid (d : Nat) : (s.setCur d).dir_valid = s.dir_valid := rfl
@[simp] theorem State.setCur_pwm_out (d : Nat) : (s.setCur d).pwm_out = s.pwm_out := rfl
@[simp] theorem State.setCur_phase (d : Nat) : (s.setCur d).phase = s.phase := rfl
@[simp] theorem State.setCur_cfg (d : Nat) : (s.setCur d).cfg = s.cfg := rfl
@[simp] theorem State.setCur_env (d : Nat) : (s.setCur d).env = s.env := rfl
@[simp] theorem State.setCur_tau (d : Nat) : (s.setCur d).tau = s.tau := rfl
@[simp] theorem State.setCur_stream (d : Nat) : (s.setCur d).stream = s.stream := rfl
@[simp] theorem State.setCur_resetTimes (d : Nat) : (s.setCur d).resetTimes = s.resetTimes := rfl

@[simp] theorem State.setKind_smp_value (k : Kind) : (s.setKind k).smp_value = s.smp_value := rfl
@[simp] theorem State.setKind_smp_valid (k : Kind) : (s.setKind k).smp_valid = s.smp_valid := rfl
@[simp] theorem State.setKind_t_c (k : Kind) : (s.setKind k).t_c = s.t_c := rfl
@[simp] theorem State.setKind_avg_sum (k : Kind) : (s.setKind k).avg_sum = s.avg_sum := rfl
@[simp] theorem State.setKind_avg_count (k : Kind) : (s.setKind k).avg_count = s.avg_count := rfl
@[simp] theorem State.setKind_tgt_pending (k : Kind) : (s.setKind k).tgt_pending = s.tgt_pending := rfl
@[simp] theorem State.setKind_tgt_value (k : Kind) : (s.setKind k).tgt_value = s.tgt_value := rfl
@[simp] theorem State.setKind_zr_count (k : Kind) : (s.setKind k).zr_count = s.zr_count := rfl
@[simp] theorem State.setKind_force_pending (k : Kind) : (s.setKind k).force_pending = s.force_pending := rfl
@[simp] theorem State.setKind_cur (k : Kind) : (s.setKind k).cur = s.cur := rfl
@[simp] theorem State.setKind_tgt (k : Kind) : (s.setKind k).tgt = s.tgt := rfl
@[simp] theorem State.setKind_start_duty (k : Kind) : (s.setKind k).start_duty = s.start_duty := rfl
@[simp] theorem State.setKind_start_time (k : Kind) : (s.setKind k).start_time = s.start_time := rfl
@[simp] theorem State.setKind_duration (k : Kind) : (s.setKind k).duration = s.duration := rfl
@[simp] theorem State.setKind_kind (k : Kind) : (s.setKind k).kind = k := rfl
@[simp] theorem State.setKind_dir_latched (k : Kind) : (s.setKind k).dir_latched = s.dir_latched := rfl
@[simp] theorem State.setKind_dir_valid (k : Kind) : (s.setKind k).dir_valid = s.dir_valid := rfl
@[simp] theorem State.setKind_pwm_out (k : Kind) : (s.setKind k).pwm_out = s.pwm_out := rfl
@[simp] theorem State.setKind_phase (k : Kind) : (s.setKind k).phase = s.phase := rfl
@[simp] theorem State.setKind_cfg (k : Kind) : (s.setKind k).cfg = s.cfg := rfl
@[simp] theorem State.setKind_env (k : Kind) : (s.setKind k).env = s.env := rfl
@[simp] theorem State.setKind_tau (k : Kind) : (s.setKind k).tau = s.tau := rfl
@[simp] theorem State.setKind_stream (k : Kind) : (s.setKind k).stream = s.stream := rfl
@[simp] theorem State.setKind_resetTimes (k : Kind) : (s.setKind k).resetTimes = s.resetTimes := rfl

@[simp] theorem State.setRamp_smp_value (T now : Nat) (r : RampSetup) : (s.setRamp T now r).smp_value = s.smp_value := rfl
@[simp] theorem State.setRamp_smp_valid (T now : Nat) (r : RampSetup) : (s.setRamp T now r).smp_valid = s.smp_valid := rfl
@[simp] theorem State.setRamp_t_c (T now : Nat) (r : RampSetup) : (s.setRamp T now r).t_c = s.t_c := rfl
@[simp] theorem State.setRamp_avg_sum (T now : Nat) (r : RampSetup) : (s.setRamp T now r).avg_sum = s.avg_sum := rfl
@[simp] theorem State.setRamp_avg_count (T now : Nat) (r : RampSetup) : (s.setRamp T now r).avg_count = s.avg_count := rfl
@[simp] theorem State.setRamp_tgt_pending (T now : Nat) (r : RampSetup) : (s.setRamp T now r).tgt_pending = s.tgt_pending := rfl
@[simp] theorem State.setRamp_tgt_value (T now : Nat) (r : RampSetup) : (s.setRamp T now r).tgt_value = s.tgt_value := rfl
@[simp] theorem State.setRamp_zr_count (T now : Nat) (r : RampSetup) : (s.setRamp T now r).zr_count = s.zr_count := rfl
@[simp] theorem State.setRamp_force_pending (T now : Nat) (r : RampSetup) : (s.setRamp T now r).force_pending = s.force_pending := rfl
@[simp] theorem State.setRamp_cur (T now : Nat) (r : RampSetup) : (s.setRamp T now r).cur = r.cur := rfl
@[simp] theorem State.setRamp_tgt (T now : Nat) (r : RampSetup) : (s.setRamp T now r).tgt = T := rfl
@[simp] theorem State.setRamp_start_duty (T now : Nat) (r : RampSetup) : (s.setRamp T now r).start_duty = r.start_duty := rfl
@[simp] theorem State.setRamp_start_time (T now : Nat) (r : RampSetup) : (s.setRamp T now r).start_time = now := rfl
@[simp] theorem State.setRamp_duration (T now : Nat) (r : RampSetup) : (s.setRamp T now r).duration = r.duration := rfl
@[simp] theorem State.setRamp_kind (T now : Nat) (r : RampSetup) : (s.setRamp T now r).kind = r.kind := rfl
@[simp] theorem State.setRamp_dir_latched (T now : Nat) (r : RampSetup) : (s.setRamp T now r).dir_latched = s.dir_latched := rfl
@[simp] theorem State.setRamp_dir_valid (T now : Nat) (r : RampSetup) : (s.setRamp T now r).dir_valid = s.dir_valid := rfl
@[simp] theorem State.setRamp_pwm_out (T now : Nat) (r : RampSetup) : (s.setRamp T now r).pwm_out = s.pwm_out := rfl
@[simp] theorem State.setRamp_phase (T now : Nat) (r : RampSetup) : (s.setRamp T now r).phase = s.phase := rfl
@[simp] theorem State.setRamp_cfg (T now : Nat) (r : RampSetup) : (s.setRamp T now r).cfg = s.cfg := rfl
@[simp] theorem State.setRamp_env (T now : Nat) (r : RampSetup) : (s.setRamp T now r).env = s.env := rfl
@[simp] theorem State.setRamp_tau (T now : Nat) (r : RampSetup) : (s.setRamp T now r).tau = s.tau := rfl
@[simp] theorem State.setRamp_stream (T now : Nat) (r : RampSetup) : (s.setRamp T now r).stream = s.stream := rfl
@[simp] theorem State.setRamp_resetTimes (T now : Nat) (r : RampSetup) : (s.setRamp T now r).resetTimes = s.resetTimes := rfl

@[simp] theorem State.latchDirection_smp_value (b : Bool) : (s.latchDirection b).smp_value = s.smp_value := rfl
@[simp] theorem State.latchDirection_smp_valid (b : Bool) : (s.latchDirection b).smp_valid = s.smp_valid := rfl
@[simp] theorem State.latchDirection_t_c (b : Bool) : (s.latchDirection b).t_c = s.t_c := rfl
@[simp] theorem State.latchDirection_avg_sum (b : Bool) : (s.latchDirection b).avg_sum = s.avg_sum := rfl
@[simp] theorem State.latchDirection_avg_count (b : Bool) : (s.latchDirection b).avg_count = s.avg_count := rfl
@[simp] theorem State.latchDirection_tgt_pending (b : Bool) : (s.latchDirection b).tgt_pending = s.tgt_pending := rfl
@[simp] theorem State.latchDirection_tgt_value (b : Bool) : (s.latchDirection b).tgt_value = s.tgt_value := rfl
@[simp] theorem State.latchDirection_zr_count (b : Bool) : (s.latchDirection b).zr_count = s.zr_count := rfl
@[simp] theorem State.latchDirection_force_pending (b : Bool) : (s.latchDirection b).force_pending = s.force_pending := rfl
@[simp] theorem State.latchDirection_cur (b : Bool) : (s.latchDirection b).cur = s.cur := rfl
@[simp] theorem State.latchDirection_tgt (b : Bool) : (s.latchDirection b).tgt = s.tgt := rfl
@[simp] theorem State.latchDirection_start_duty (b : Bool) : (s.latchDirection b).start_duty = s.start_duty := rfl
@[simp] theorem State.latchDirection_start_time (b : Bool) : (s.latchDirection b).start_time = s.start_time := rfl
@[simp] theorem State.latchDirection_duration (b : Bool) : (s.latchDirection b).duration = s.duration := rfl
@[simp] theorem State.latchDirection_kind (b : Bool) : (s.latchDirection b).kind = s.kind := rfl
@[simp] theorem State.latchDirection_dir_latched (b : Bool) : (s.latchDirection b).dir_latched = b := rfl
@[simp] theorem State.latchDirection_dir_valid (b : Bool) : (s.latchDirection b).dir_valid = true := rfl
@[simp] theorem State.latchDirection_pwm_out (b : Bool) : (s.latchDirection b).pwm_out = s.pwm_out := rfl
@[simp] theorem State.latchDirection_phase (b : Bool) : (s.latchDirection b).phase = s.phase := rfl
@[simp] theorem State.latchDirection_cfg (b : Bool) : (s.latchDirection b).cfg = s.cfg := rfl
@[simp] theorem State.latchDirection_env (b : Bool) : (s.latchDirection b).env = s.env := rfl
@[simp] theorem State.latchDirection_tau (b : Bool) : (s.latchDirection b).tau = s.tau := rfl
@[simp] theorem State.latchDirection_stream (b : Bool) : (s.latchDirection b).stream = s.stream := rfl
@[simp] theorem State.latchDirection_resetTimes (b : Bool) : (s.latchDirection b).resetTimes = s.resetTimes := rfl

@[simp] theorem State.setOutput_smp_value (v : Nat) : (s.setOutput v).smp_value = s.smp_value := rfl
@[simp] theorem State.setOutput_smp_valid (v : Nat) : (s.setOutput v).smp_valid = s.smp_valid := rfl
@[simp] theorem State.setOutput_t_c (v : Nat) : (s.setOutput v).t_c = s.t_c := rfl
@[simp] theorem State.setOutput_avg_sum (v : Nat) : (s.setOutput v).avg_sum = s.avg_sum := rfl
@[simp] theorem State.setOutput_avg_count (v : Nat) : (s.setOutput v).avg_count = s.avg_count := rfl
@[simp] theorem State.setOutput_tgt_pending (v : Nat) : (s.setOutput v).tgt_pending = s.tgt_pending := rfl
@[simp] theorem State.setOutput_tgt_value (v : Nat) : (s.setOutput v).tgt_value = s.tgt_value := rfl
@[simp] theorem State.setOutput_zr_count (v : Nat) : (s.setOutput v).zr_count = s.zr_count := rfl
@[simp] theorem State.setOutput_force_pending (v : Nat) : (s.setOutput v).force_pending = s.force_pending := rfl
@[simp] theorem State.setOutput_cur (v : Nat) : (s.setOutput v).cur = s.cur := rfl
@[simp] theorem State.setOutput_tgt (v : Nat) : (s.setOutput v).tgt = s.tgt := rfl
@[simp] theorem State.setOutput_start_duty (v : Nat) : (s.setOutput v).start_duty = s.start_duty := rfl
@[simp] theorem State.setOutput_start_time (v : Nat) : (s.setOutput v).start_time = s.start_time := rfl
@[simp] theorem State.setOutput_duration (v : Nat) : (s.setOutput v).duration = s.duration := rfl
@[simp] theorem State.setOutput_kind (v : Nat) : (s.setOutput v).kind = s.kind := rfl
@[simp] theorem State.setOutput_dir_latched (v : Nat) : (s.setOutput v).dir_latched = s.dir_latched := rfl
@[simp] theorem State.setOutput_dir_valid (v : Nat) : (s.setOutput v).dir_valid = s.dir_valid := rfl
@[simp] theorem State.setOutput_pwm_out (v : Nat) : (s.setOutput v).pwm_out = v := rfl
@[simp] theorem State.setOutput_phase (v : Nat) : (s.setOutput v).phase = s.phase := rfl
@[simp] theorem State.setOutput_cfg (v : Nat) : (s.setOutput v).cfg = s.cfg := rfl
@[simp] theorem State.setOutput_env (v : Nat) : (s.setOutput v).env = s.env := rfl
@[simp] theorem State.setOutput_tau (v : Nat) : (s.setOutput v).tau = s.tau := rfl
@[simp] theorem State.setOutput_stream (v : Nat) : (s.setOutput v).stream = s.stream := rfl
@[simp] theorem State.setOutput_resetTimes (v : Nat) : (s.setOutput v).resetTimes = s.resetTimes := rfl

@[simp] theorem State.popStream_smp_value : (s.popStream).smp_value = s.smp_value := rfl
@[simp] theorem State.popStream_smp_valid : (s.popStream).smp_valid = s.smp_valid := rfl
@[simp] theorem State.popStream_t_c : (s.popStream).t_c = s.t_c := rfl
@[simp] theorem State.popStream_avg_sum : (s.popStream).avg_sum = s.avg_sum := rfl
@[simp] theorem State.popStream_avg_count : (s.popStream).avg_count = s.avg_count := rfl
@[simp] theorem State.popStream_tgt_pending : (s.popStream).tgt_pending = s.tgt_pending := rfl
@[simp] theorem State.popStream_tgt_value : (s.popStream).tgt_value = s.tgt_value := rfl
@[simp] theorem State.popStream_zr_count : (s.popStream).zr_count = s.zr_count := rfl
@[simp] theorem State.popStream_force_pending : (s.popStream).force_pending = s.force_pending := rfl
@[simp] theorem State.popStream_cur : (s.popStream).cur = s.cur := rfl
@[simp] theorem State.popStream_tgt : (s.popStream).tgt = s.tgt := rfl
@[simp] theorem State.popStream_start_duty : (s.popStream).start_duty = s.start_duty := rfl
@[simp] theorem State.popStream_start_time : (s.popStream).start_time = s.start_time := rfl
@[simp] theorem State.popStream_duration : (s.popStream).duration = s.duration := rfl
@[simp] theorem State.popStream_kind : (s.popStream).kind = s.kind := rfl
@[simp] theorem State.popStream_dir_latched : (s.popStream).dir_latched = s.dir_latched := rfl
@[simp] theorem State.popStream_dir_valid : (s.popStream).dir_valid = s.dir_valid := rfl
@[simp] theorem State.popStream_pwm_out : (s.popStream).pwm_out = s.pwm_out := rfl
@[simp] theorem State.popStream_phase : (s.popStream).phase = s.phase := rfl
@[simp] theorem State.popStream_cfg : (s.popStream).cfg = s.cfg := rfl
@[simp] theorem State.popStream_env : (s.popStream).env = s.env := rfl
@[simp] theorem State.popStream_tau : (s.popStream).tau = s.tau := rfl
@[simp] theorem State.popStream_stream : (s.popStream).stream = s.stream.tail := rfl
@[simp] theorem State.popStream_resetTimes : (s.popStream).resetTimes = s.resetTimes := rfl

@[simp] theorem State.popResetTime_smp_value : (s.popResetTime).smp_value = s.smp_value := rfl
@[simp] theorem State.popResetTime_smp_valid : (s.popResetTime).smp_valid = s.smp_valid := rfl
@[simp] theorem State.popResetTime_t_c : (s.popResetTime).t_c = s.t_c := rfl
@[simp] theorem State.popResetTime_avg_sum : (s.popResetTime).avg_sum = s.avg_sum := rfl
@[simp] theorem State.popResetTime_avg_count : (s.popResetTime).avg_count = s.avg_count := rfl
@[simp] theorem State.popResetTime_tgt_pending : (s.popResetTime).tgt_pending = s.tgt_pending := rfl
@[simp] theorem State.popResetTime_tgt_value : (s.popResetTime).tgt_value = s.tgt_value := rfl
@[simp] theorem State.popResetTime_zr_count : (s.popResetTime).zr_count = s.zr_count := rfl
@[simp] theorem State.popResetTime_force_pending : (s.popResetTime).force_pending = s.force_pending := rfl
@[simp] theorem State.popResetTime_cur : (s.popResetTime).cur = s.cur := rfl
@[simp] theorem State.popResetTime_tgt : (s.popResetTime).tgt = s.tgt := rfl
@[simp] theorem State.popResetTime_start_duty : (s.popResetTime).start_duty = s.start_duty := rfl
@[simp] theorem State.popResetTime_start_time : (s.popResetTime).start_time = s.start_time := rfl
@[simp] theorem State.popResetTime_duration : (s.popResetTime).duration = s.duration := rfl
@[simp] theorem State.popResetTime_kind : (s.popResetTime).kind = s.kind := rfl
@[simp] theorem State.popResetTime_dir_latched : (s.popResetTime).dir_latched = s.dir_latched := rfl
@[simp] theorem State.popResetTime_dir_valid : (s.popResetTime).dir_valid = s.dir_valid := rfl
@[simp] theorem State.popResetTime_pwm_out : (s.popResetTime).pwm_out = s.pwm_out := rfl
@[simp] theorem State.popResetTime_phase : (s.popResetTime).phase = s.phase := rfl
@[simp] theorem State.popResetTime_cfg : (s.popResetTime).cfg = s.cfg := rfl
@[simp] theorem State.popResetTime_env : (s.popResetTime).env = s.env := rfl
@[simp] theorem State.popResetTime_tau : (s.popResetTime).tau = s.tau := rfl
@[simp] theorem State.popResetTime_stream : (s.popResetTime).stream = s.stream := rfl
@[simp] theorem State.popResetTime_resetTimes : (s.popResetTime).resetTimes = s.resetTimes.tail := rfl

@[simp] theorem State.withStream_smp_value (ws : List OpWord) : (s.withStream ws).smp_value = s.smp_value := rfl
@[simp] theorem State.withStream_smp_valid (ws : List OpWord) : (s.withStream ws).smp_valid = s.smp_valid := rfl
@[simp] theorem State.withStream_t_c (ws : List OpWord) : (s.withStream ws).t_c = s.t_c := rfl
@[simp] theorem State.withStream_avg_sum (ws : List OpWord) : (s.withStream ws).avg_sum = s.avg_sum := rfl
@[simp] theorem State.withStream_avg_count (ws : List OpWord) : (s.withStream ws).avg_count = s.avg_count := rfl
@[simp] theorem State.withStream_tgt_pending (ws : List OpWord) : (s.withStream ws).tgt_pending = s.tgt_pending := rfl
@[simp] theorem State.withStream_tgt_value (ws : List OpWord) : (s.withStream ws).tgt_value = s.tgt_value := rfl
@[simp] theorem State.withStream_zr_count (ws : List OpWord) : (s.withStream ws).zr_count = s.zr_count := rfl
@[simp] theorem State.withStream_force_pending (ws : List OpWord) : (s.withStream ws).force_pending = s.force_pending := rfl
@[simp] theorem State.withStream_cur (ws : List OpWord) : (s.withStream ws).cur = s.cur := rfl
@[simp] theorem State.withStream_tgt (ws : List OpWord) : (s.withStream ws).tgt = s.tgt := rfl
@[simp] theorem State.withStream_start_duty (ws : List OpWord) : (s.withStream ws).start_duty = s.start_duty := rfl
@[simp] theorem State.withStream_start_time (ws : List OpWord) : (s.withStream ws).start_time = s.start_time := rfl
@[simp] theorem State.withStream_duration (ws : List OpWord) : (s.withStream ws).duration = s.duration := rfl
@[simp] theorem State.withStream_kind (ws : List OpWord) : (s.withStream ws).kind = s.kind := rfl
@[simp] theorem State.withStream_dir_latched (ws : List OpWord) : (s.withStream ws).dir_latched = s.dir_latched := rfl
@[simp] theorem State.withStream_dir_valid (ws : List OpWord) : (s.withStream ws).dir_valid = s.dir_valid := rfl
@[simp] theorem State.withStream_pwm_out (ws : List OpWord) : (s.withStream ws).pwm_out = s.pwm_out := rfl
@[simp] theorem State.withStream_phase (ws : List OpWord) : (s.withStream ws).phase = s.phase := rfl
@[simp] theorem State.withStream_cfg (ws : List OpWord) : (s.withStream ws).cfg = s.cfg := rfl
@[simp] theorem State.withStream_env (ws : List OpWord) : (s.withStream ws).env = s.env := rfl
@[simp] theorem State.withStream_tau (ws : List OpWord) : (s.withStream ws).tau = s.tau := rfl
@[simp] theorem State.withStream_stream (ws : List OpWord) : (s.withStream ws).stream = ws := rfl
@[simp] theorem State.withStream_resetTimes (ws : List OpWord) : (s.withStream ws).resetTimes = s.resetTimes := rfl

end Sys2Proof.Machine
end

