-- ==== Sys2Proof/Laws/Ops.lean ====
section
/-! SUPPORT. What the shared operations can do, said once: the configuration check, an operation's effect, and one step. -/

namespace Sys2Proof.Machine

theorem configured_of_wf {s : State} {r : Result} (h : s.cfg.wf = true) : configured s r = r := by
  simp [configured, h]

theorem configured_of_not_wf {s : State} {r : Result} (h : s.cfg.wf = false) : configured s r = .refused .badConfig := by
  simp [configured, h]

/-- The one way an operation answers a next state. -/
theorem configured_next_iff {s t u : State} :
    configured s (.next t) = .next u ↔ s.cfg.wf = true ∧ t = u := by
  unfold configured
  split <;> simp [*]

/-- The state an operation leaves under a well-formed configuration. -/
def effect (i : Instr) (s : State) : State :=
  match i with
  | .reset => resetEffect s
  | .calhook => calhookEffect s
  | .measure => measureEffect s
  | .dirupd => dirupdEffect s
  | .zrun => zrunEffect s
  | .force0 => force0Effect s
  | .accum => accumEffect s
  | .retarget => retargetEffect s
  | .rtick => rtickEffect s
  | .outwr => outwrEffect s

/-- Every operation is its effect behind the configuration check. -/
theorem exec_eq (i : Instr) (s : State) : exec i s = configured s (.next (effect i s)) := by
  cases i <;> rfl

theorem exec_of_wf {s : State} (i : Instr) (h : s.cfg.wf = true) : exec i s = .next (effect i s) := by
  rw [exec_eq, configured_of_wf h]

theorem exec_next_iff {i : Instr} {s t : State} : exec i s = .next t ↔ s.cfg.wf = true ∧ effect i s = t := by
  rw [exec_eq, configured_next_iff]

@[simp] theorem decode_encode_word (i : Instr) : decodeWord (encode i) = .op i := by
  cases i <;> rfl

theorem encode_of_decodeWord {w : OpWord} {i : Instr} (h : decodeWord w = .op i) : encode i = w := by
  have hall : ∀ w : OpWord, ∀ i ∈ allInstrs, decodeWord w = .op i → encode i = w := by decide
  exact hall w i (by cases i <;> decide) h

/-- One step, said once: it runs the operation its word names, and the word is the phase's or RESET's. -/
theorem step_next {s t : State} (h : step s = .next t) :
    ∃ i, nextWord s = encode i ∧ (s.phase = encode i ∨ i = .reset) ∧ s.cfg.wf = true ∧ t = effect i s.popStream := by
  unfold step fetch at h
  split at h
  · rename_i hw
    cases hd : decodeWord (nextWord s) with
    | reserved => simp [hd] at h
    | op i =>
      by_cases ho : inOrder s (nextWord s) = true
      · simp only [hd, ho, if_true] at h
        have he := encode_of_decodeWord hd
        refine ⟨i, he.symm, ?_, hw, (exec_next_iff.1 h).2.symm⟩
        simp only [inOrder, Bool.or_eq_true, decide_eq_true_eq] at ho
        rcases ho with ho | ho
        · exact Or.inl (ho ▸ he.symm)
        · right
          have : decodeWord (nextWord s) = .op .reset := by rw [ho]; rfl
          exact Decoded.op.inj (hd.symm.trans this)
      · simp [hd, ho] at h
  · cases h

/-- The refusals of a step, and the step it takes otherwise (R302). -/
theorem step_of_not_wf {s : State} (h : s.cfg.wf = false) : step s = .refused .badConfig := by
  simp [step, h]

theorem step_of_reserved {s : State} (hw : s.cfg.wf = true) (hd : decodeWord (nextWord s) = .reserved) :
    step s = .refused .reservedOpcode := by
  simp [step, hw, fetch, hd]

theorem step_of_disorder {s : State} {i : Instr} (hw : s.cfg.wf = true) (hd : decodeWord (nextWord s) = .op i)
    (hp : nextWord s ≠ s.phase) (hr : nextWord s ≠ encode .reset) : step s = .refused .outOfOrder := by
  simp [step, hw, fetch, hd, inOrder, hp, hr]

theorem step_of_order {s : State} {i : Instr} (hw : s.cfg.wf = true) (hd : decodeWord (nextWord s) = .op i)
    (ho : nextWord s = s.phase ∨ nextWord s = encode .reset) : step s = .next (effect i s.popStream) := by
  have hio : inOrder s (nextWord s) = true := by
    simp only [inOrder, Bool.or_eq_true, decide_eq_true_eq]
    exact ho
  rw [step, if_pos hw, fetch, hd]
  simp only [hio, if_true]
  exact exec_of_wf i hw

theorem popStream_of_nil {s : State} (h : s.stream = []) : s.popStream = s := by
  cases s
  subst h
  rfl

/-- Without a stream the next operation is the phase's. -/
theorem step_of_phase {s : State} {i : Instr} (hw : s.cfg.wf = true) (hs : s.stream = []) (hp : s.phase = encode i) :
    step s = .next (effect i s) := by
  have hn : nextWord s = encode i := by simp [nextWord, hs, hp]
  have ho : inOrder s (encode i) = true := by simp [inOrder, hp]
  rw [step, if_pos hw, fetch, hn, decode_encode_word]
  simp only [ho, if_true]
  rw [popStream_of_nil hs, exec_of_wf i hw]

@[simp] theorem effect_cfg (i : Instr) (s : State) : (effect i s).cfg = s.cfg := by
  cases i <;> simp only [effect]
  case reset => rfl
  case calhook => rfl
  case measure => unfold measureEffect; split <;> rfl
  case dirupd => unfold dirupdEffect; split <;> rfl
  case zrun => unfold zrunEffect; split <;> rfl
  case force0 => rfl
  case accum => unfold accumEffect; split <;> rfl
  case retarget => rfl
  case rtick => unfold rtickEffect; split <;> [rfl; (split <;> rfl)]
  case outwr => rfl

@[simp] theorem effect_env (i : Instr) (s : State) : (effect i s).env = s.env := by
  cases i <;> simp only [effect]
  case reset => rfl
  case calhook => rfl
  case measure => unfold measureEffect; split <;> rfl
  case dirupd => unfold dirupdEffect; split <;> rfl
  case zrun => unfold zrunEffect; split <;> rfl
  case force0 => rfl
  case accum => unfold accumEffect; split <;> rfl
  case retarget => rfl
  case rtick => unfold rtickEffect; split <;> [rfl; (split <;> rfl)]
  case outwr => rfl

@[simp] theorem effect_stream (i : Instr) (s : State) : (effect i s).stream = s.stream := by
  cases i <;> simp only [effect]
  case reset => rfl
  case calhook => rfl
  case measure => unfold measureEffect; split <;> rfl
  case dirupd => unfold dirupdEffect; split <;> rfl
  case zrun => unfold zrunEffect; split <;> rfl
  case force0 => rfl
  case accum => unfold accumEffect; split <;> rfl
  case retarget => rfl
  case rtick => unfold rtickEffect; split <;> [rfl; (split <;> rfl)]
  case outwr => rfl

end Sys2Proof.Machine
end

