-- ==== Sys2Proof/Laws/Waveform.lean ====
section
/-! SUPPORT. Reading a waveform (40_sampler.md R100, R102): what `level`, `nextEdge`, `edgeBy` and `qualifyingPair` find. -/

namespace Sys2Proof.Machine

/-! ### The unknown line -/

theorem freeEdge_lt_succ (start line n : Nat) : freeEdge start line n < freeEdge start line (n + 1) := by
  simp only [freeEdge]
  omega

theorem freeEdge_strictMono (start line : Nat) : StrictMono (freeEdge start line) :=
  strictMono_nat_of_lt_succ (freeEdge_lt_succ start line)

/-- The n-th edge of an unknown line is later than its start by more than n. -/
theorem freeEdge_gt (start line n : Nat) : start + n < freeEdge start line n := by
  induction n with
  | zero => simp only [freeEdge]; omega
  | succ n ih => have := freeEdge_lt_succ start line n; omega

theorem hasEdge_free {start line τ : Nat} :
    (Tail.free line).hasEdge start τ = true ↔ ∃ n, freeEdge start line n = τ := by
  simp only [Tail.hasEdge, List.any_eq_true, List.mem_range, beq_iff_eq]
  constructor
  · rintro ⟨n, -, hn⟩
    exact ⟨n, hn⟩
  · rintro ⟨n, rfl⟩
    exact ⟨n, by have := freeEdge_gt start line n; omega, rfl⟩

/-! ### Counting edges -/

/-- In a list without repeats one value more counts at most one element more. -/
theorem countP_le_succ {l : List Nat} (hl : l.Nodup) (τ : Nat) :
    l.countP (fun e => decide (e ≤ τ + 1)) = l.countP (fun e => decide (e ≤ τ)) + (if τ + 1 ∈ l then 1 else 0) := by
  induction l with
  | nil => rfl
  | cons a l ih =>
    rw [List.nodup_cons] at hl
    rw [List.countP_cons, List.countP_cons, ih hl.2]
    by_cases ha : τ + 1 = a
    · subst ha
      simp [hl.1]
    · have h1 : (a ≤ τ + 1 ↔ a ≤ τ) := by omega
      simp only [h1, List.mem_cons, ha, false_or]
      omega

/-- A repeating edge counts once more exactly at the times at which it is. -/
theorem repeat_count_succ (f period τ : Nat) :
    (if f ≤ τ + 1 then (τ + 1 - f) / period + 1 else 0) =
      (if f ≤ τ then (τ - f) / period + 1 else 0) + (if f ≤ τ + 1 ∧ (τ + 1 - f) % period = 0 then 1 else 0) := by
  rcases Nat.lt_trichotomy f (τ + 1) with h | h | h
  · have h1 : f ≤ τ := by omega
    have h2 : τ + 1 - f = (τ - f) + 1 := by omega
    simp only [h1, Nat.le_of_lt h, if_true, true_and, h2, Nat.succ_div, Nat.dvd_iff_mod_eq_zero]
    split <;> omega
  · subst h
    simp
  · have h1 : ¬f ≤ τ := by omega
    have h2 : ¬f ≤ τ + 1 := by omega
    simp [h1, h2]

/-- Repeating edges within one period of each other never fall together. -/
theorem repeat_sum_succ {firsts : List Nat} {period τ : Nat} (hs : firsts.Pairwise (fun f g => f < g ∧ g < f + period)) :
    (firsts.map (fun f => if f ≤ τ + 1 then (τ + 1 - f) / period + 1 else 0)).sum =
      (firsts.map (fun f => if f ≤ τ then (τ - f) / period + 1 else 0)).sum +
        (if firsts.any (fun f => decide (f ≤ τ + 1) && (τ + 1 - f) % period == 0) then 1 else 0) := by
  induction firsts with
  | nil => rfl
  | cons f l ih =>
    rw [List.pairwise_cons] at hs
    rw [List.map_cons, List.map_cons, List.sum_cons, List.sum_cons, ih hs.2, repeat_count_succ]
    by_cases hf : f ≤ τ + 1 ∧ (τ + 1 - f) % period = 0
    · have hl : l.any (fun f => decide (f ≤ τ + 1) && (τ + 1 - f) % period == 0) = false := by
        rw [List.any_eq_false]
        intro g hg hc
        simp only [Bool.and_eq_true, decide_eq_true_eq, beq_iff_eq] at hc
        have hfg := hs.1 g hg
        have hd : g - f = (τ + 1 - f) - (τ + 1 - g) := by omega
        have : (g - f) % period = 0 := by
          rw [hd]
          exact Nat.mod_eq_zero_of_dvd (Nat.dvd_sub (Nat.dvd_of_mod_eq_zero hf.2) (Nat.dvd_of_mod_eq_zero hc.2))
        rw [Nat.mod_eq_of_lt (by omega)] at this
        omega
      simp only [List.any_cons, hl, hf, decide_true, beq_self_eq_true, Bool.and_self, Bool.or_false, and_self, if_true,
        Bool.false_eq_true, if_false]
      omega
    · have hb : (decide (f ≤ τ + 1) && (τ + 1 - f) % period == 0) = false := by
        simpa [Bool.eq_false_iff] using hf
      simp only [List.any_cons, hb, hf, Bool.false_or, if_false]
      omega

/-- A tail that keeps its order has one edge more exactly at its edge times. -/
theorem tail_count_succ {start : Nat} {t : Tail} (ht : t.wf start = true) (τ : Nat) :
    t.count start (τ + 1) = t.count start τ + (if t.hasEdge start (τ + 1) then 1 else 0) := by
  cases t with
  | silent => rfl
  | repeating firsts period =>
    simp only [Tail.wf, Bool.and_eq_true, decide_eq_true_eq] at ht
    exact repeat_sum_succ ht.2
  | free line =>
    have hm := freeEdge_strictMono start line
    have hgt := freeEdge_gt start line (τ + 1)
    have hc : ∀ τ', ((List.range (τ + 2)).countP fun n => decide (freeEdge start line n ≤ τ')) =
        ((List.range (τ + 2)).map (freeEdge start line)).countP (fun e => decide (e ≤ τ')) := fun τ' => by
      rw [List.countP_map]
      rfl
    have hn : ((List.range (τ + 2)).map (freeEdge start line)).Nodup := List.nodup_range.map hm.injective
    have hlast : (Tail.free line).count start τ = (List.range (τ + 2)).countP (fun n => decide (freeEdge start line n ≤ τ)) := by
      have h0 : ¬freeEdge start line (τ + 1) ≤ τ := by omega
      rw [show τ + 2 = (τ + 1) + 1 from rfl, List.range_succ, List.countP_append]
      simp [Tail.count, h0]
    have hmem : τ + 1 ∈ (List.range (τ + 2)).map (freeEdge start line) ↔ (Tail.free line).hasEdge start (τ + 1) = true := by
      simp only [Tail.hasEdge, List.any_eq_true, beq_iff_eq, List.mem_map]
    rw [hlast, hc, show (Tail.free line).count start (τ + 1) = _ from hc (τ + 1), countP_le_succ hn]
    simp only [hmem]

/-! ### The edges of a line -/

theorem nextRepeat_eq_some {period τ f c : Nat} (h : nextRepeat period τ f = some c) :
    f ≤ c ∧ (c - f) % period = 0 ∧ τ < c := by
  unfold nextRepeat at h
  split at h
  · cases h
    simp [*]
  · split at h
    · cases h
    · rename_i hf hp
      cases h
      have := Nat.lt_mul_div_succ (τ - f) (Nat.pos_of_ne_zero hp)
      rw [Nat.mul_comm] at this
      refine ⟨Nat.le_add_right _ _, by simp, by omega⟩

theorem nextRepeat_le {period τ f x : Nat} (hf : f ≤ x) (hx : (x - f) % period = 0) (hτ : τ < x) :
    ∃ c, nextRepeat period τ f = some c ∧ c ≤ x := by
  unfold nextRepeat
  split
  · exact ⟨f, rfl, hf⟩
  · rename_i hlt
    split
    · rename_i hp
      rw [hp, Nat.mod_zero] at hx
      omega
    · rename_i hp
      obtain ⟨k, hk⟩ := Nat.dvd_of_mod_eq_zero hx
      refine ⟨_, rfl, ?_⟩
      have h1 : (τ - f) / period < k := Nat.div_lt_of_lt_mul (by omega)
      have h2 := Nat.mul_le_mul_right period (Nat.succ_le_of_lt h1)
      rw [Nat.mul_comm k, ← hk] at h2
      simp only [Nat.succ_eq_add_one] at h2
      omega

/-- What `after` lists: edges of the tail that are later than τ. -/
theorem hasEdge_of_mem_after {start : Nat} {t : Tail} {τ c : Nat} (h : c ∈ t.after start τ) :
    t.hasEdge start c = true ∧ τ < c := by
  cases t with
  | silent => cases h
  | repeating firsts period =>
    obtain ⟨f, hf, hc⟩ := List.mem_filterMap.1 h
    obtain ⟨h1, h2, h3⟩ := nextRepeat_eq_some hc
    simp only [Tail.hasEdge, List.any_eq_true]
    exact ⟨⟨f, hf, by simp [h1, h2]⟩, h3⟩
  | free line =>
    simp only [Tail.after, List.mem_filter, List.mem_map, decide_eq_true_eq] at h
    obtain ⟨⟨n, -, hn⟩, hτ⟩ := h
    exact ⟨hasEdge_free.2 ⟨n, hn⟩, hτ⟩

/-- And none of the tail's edges after τ comes before all it lists. -/
theorem exists_mem_after {start : Nat} {t : Tail} {τ x : Nat} (h : t.hasEdge start x = true) (hτ : τ < x) :
    ∃ c ∈ t.after start τ, c ≤ x := by
  cases t with
  | silent => cases h
  | repeating firsts period =>
    simp only [Tail.hasEdge, List.any_eq_true, Bool.and_eq_true, decide_eq_true_eq, beq_iff_eq] at h
    obtain ⟨f, hf, h1, h2⟩ := h
    obtain ⟨c, hc, hle⟩ := nextRepeat_le h1 h2 hτ
    exact ⟨c, List.mem_filterMap.2 ⟨f, hf, hc⟩, hle⟩
  | free line =>
    obtain ⟨n, rfl⟩ := hasEdge_free.1 h
    have hm := freeEdge_strictMono start line
    have hlast := freeEdge_gt start line τ
    simp only [Tail.after, List.mem_filter, List.mem_map, List.mem_range, decide_eq_true_eq]
    rcases Nat.lt_or_ge n (τ + 1) with hn | hn
    · exact ⟨_, ⟨⟨n, hn, rfl⟩, hτ⟩, Nat.le_refl _⟩
    · exact ⟨_, ⟨⟨τ, Nat.lt_succ_self τ, rfl⟩, by omega⟩, hm.monotone (by omega)⟩

theorem hasEdge_iff {w : Waveform} {τ : Nat} :
    w.hasEdge τ = true ↔ τ ∈ w.edges ∨ w.tail.hasEdge w.tailStart τ = true := by
  simp [Waveform.hasEdge]

/-- A line with no tail has its listed edges and no other. -/
theorem hasEdge_of_silent {w : Waveform} (h : w.tail = .silent) (τ : Nat) : w.hasEdge τ = true ↔ τ ∈ w.edges := by
  simp [hasEdge_iff, h, Tail.hasEdge]

theorem nextEdge_eq_some {w : Waveform} {τ e : Nat} : w.nextEdge τ = some e ↔ IsNextEdge w τ e := by
  simp only [Waveform.nextEdge, List.min?_eq_some_iff, List.mem_append, List.mem_filter, decide_eq_true_eq, IsNextEdge,
    hasEdge_iff]
  constructor
  · rintro ⟨he, hmin⟩
    have hle : ∀ x, (x ∈ w.edges ∨ w.tail.hasEdge w.tailStart x = true) → τ < x → e ≤ x := by
      rintro x (hx | hx) hτ
      · exact hmin x (Or.inl ⟨hx, hτ⟩)
      · obtain ⟨c, hc, hcx⟩ := exists_mem_after hx hτ
        exact Nat.le_trans (hmin c (Or.inr hc)) hcx
    rcases he with ⟨he, hτ⟩ | he
    · exact ⟨Or.inl he, hτ, hle⟩
    · exact ⟨Or.inr (hasEdge_of_mem_after he).1, (hasEdge_of_mem_after he).2, hle⟩
  · rintro ⟨he, hτ, hmin⟩
    constructor
    · rcases he with he | he
      · exact Or.inl ⟨he, hτ⟩
      · obtain ⟨c, hc, hce⟩ := exists_mem_after he hτ
        have hc' := hasEdge_of_mem_after hc
        exact Or.inr (Nat.le_antisymm hce (hmin c (Or.inr hc'.1) hc'.2) ▸ hc)
    · rintro x (⟨hx, hxτ⟩ | hx)
      · exact hmin x (Or.inl hx) hxτ
      · exact hmin x (Or.inr (hasEdge_of_mem_after hx).1) (hasEdge_of_mem_after hx).2

theorem nextEdge_eq_none {w : Waveform} {τ : Nat} : w.nextEdge τ = none ↔ ∀ e, w.hasEdge e = true → e ≤ τ := by
  simp only [Waveform.nextEdge, List.min?_eq_none_iff, List.append_eq_nil_iff, List.filter_eq_nil_iff, decide_eq_true_eq,
    hasEdge_iff]
  constructor
  · rintro ⟨h1, h2⟩ e (he | he)
    · exact Nat.not_lt.1 (h1 e he)
    · by_contra hc
      obtain ⟨c, hc, -⟩ := exists_mem_after he (Nat.not_le.1 hc)
      rw [h2] at hc
      cases hc
  · intro h
    refine ⟨fun e he => Nat.not_lt.2 (h e (Or.inl he)), List.eq_nil_iff_forall_not_mem.2 fun c hc => ?_⟩
    have := hasEdge_of_mem_after hc
    exact absurd (h c (Or.inr this.1)) (Nat.not_le.2 this.2)

/-! ### The level -/

theorem foldl_max_ge (l : List Nat) (a : Nat) : a ≤ l.foldl max a ∧ ∀ e ∈ l, e ≤ l.foldl max a := by
  induction l generalizing a with
  | nil => exact ⟨Nat.le_refl _, fun _ h => by cases h⟩
  | cons b l ih =>
    have h := ih (max a b)
    refine ⟨Nat.le_trans (Nat.le_max_left _ _) h.1, fun e he => ?_⟩
    rcases List.mem_cons.1 he with rfl | he
    · exact Nat.le_trans (Nat.le_max_right _ _) h.1
    · exact h.2 e he

theorem le_tailStart {w : Waveform} {e : Nat} (h : e ∈ w.edges) : e ≤ w.tailStart := (foldl_max_ge w.edges 0).2 e h

/-- A tail that keeps its order begins after its start. -/
theorem tail_hasEdge_gt {start : Nat} {t : Tail} {τ : Nat} (ht : t.wf start = true) (h : t.hasEdge start τ = true) :
    start < τ := by
  cases t with
  | silent => cases h
  | repeating firsts period =>
    simp only [Tail.wf, Bool.and_eq_true, List.all_eq_true, decide_eq_true_eq] at ht
    simp only [Tail.hasEdge, List.any_eq_true, Bool.and_eq_true, decide_eq_true_eq] at h
    obtain ⟨f, hf, hle, -⟩ := h
    exact Nat.lt_of_lt_of_le (ht.1.2 f hf) hle
  | free line =>
    obtain ⟨n, rfl⟩ := hasEdge_free.1 h
    have := freeEdge_gt start line n
    omega

/-- At time 0 no edge of a tail that keeps its order has been. -/
theorem tail_count_zero {start : Nat} {t : Tail} (ht : t.wf start = true) : t.count start 0 = 0 := by
  cases t with
  | silent => rfl
  | repeating firsts period =>
    simp only [Tail.wf, Bool.and_eq_true, List.all_eq_true, decide_eq_true_eq] at ht
    simp only [Tail.count, List.sum_eq_zero_iff, List.mem_map]
    rintro x ⟨f, hf, rfl⟩
    have := ht.1.2 f hf
    rw [if_neg (by omega)]
  | free line =>
    have := freeEdge_gt start line 0
    have h0 : freeEdge start line 0 ≠ 0 := by omega
    simp [Tail.count, h0]

theorem level_zero {w : Waveform} (hw : w.wf = true) : w.level 0 = w.level0 := by
  simp only [Waveform.wf, Bool.and_eq_true] at hw
  have h0 : w.edges.countP (fun e => decide (0 < e) && decide (e ≤ 0)) = 0 := by
    rw [List.countP_eq_zero]
    intro e _ he
    simp only [Bool.and_eq_true, decide_eq_true_eq] at he
    omega
  rw [Waveform.level, h0, tail_count_zero hw.2]
  exact Bool.xor_false _

/-- A line that keeps the environment's duties toggles exactly at its edges (R100). -/
theorem level_succ {w : Waveform} (hw : w.wf = true) (τ : Nat) : w.level (τ + 1) = (w.level τ ^^ w.hasEdge (τ + 1)) := by
  simp only [Waveform.wf, Bool.and_eq_true, decide_eq_true_eq, List.all_eq_true] at hw
  obtain ⟨⟨hs, hpos⟩, ht⟩ := hw
  have hc : ∀ τ', w.edges.countP (fun e => decide (0 < e) && decide (e ≤ τ')) = w.edges.countP (fun e => decide (e ≤ τ')) :=
    fun τ' => List.countP_congr fun e he => by simp [hpos e he]
  have hsum : w.edges.countP (fun e => decide (e ≤ τ + 1)) + w.tail.count w.tailStart (τ + 1) =
      w.edges.countP (fun e => decide (e ≤ τ)) + w.tail.count w.tailStart τ + (if w.hasEdge (τ + 1) then 1 else 0) := by
    rw [countP_le_succ (hs.imp Nat.ne_of_lt), tail_count_succ ht]
    by_cases h1 : τ + 1 ∈ w.edges
    · have h2 : w.tail.hasEdge w.tailStart (τ + 1) = false := by
        rw [Bool.eq_false_iff]
        intro h2
        exact absurd (tail_hasEdge_gt ht h2) (Nat.not_lt.2 (le_tailStart h1))
      simp [hasEdge_iff, h1, h2]
      omega
    · simp [hasEdge_iff, h1, Nat.add_assoc]
  simp only [Waveform.level, hc, hsum]
  generalize w.edges.countP (fun e => decide (e ≤ τ)) + w.tail.count w.tailStart τ = n
  rcases Nat.mod_two_eq_zero_or_one n with hn | hn <;> cases w.hasEdge (τ + 1) <;> simp [Nat.add_mod, hn]

/-- Every function of time is some line's level, up to any time: its changes are the line's edges (R255 item 2). -/
theorem exists_level_eq (f : Nat → Bool) (horizon : Nat) :
    ∃ w : Waveform, w.wf = true ∧ ∀ τ, τ ≤ horizon → w.level τ = f τ := by
  have hmem : ∀ n, n ∈ ((List.range horizon).filter fun n => f (n + 1) != f n).map (· + 1) ↔
      ∃ m, n = m + 1 ∧ m < horizon ∧ f (m + 1) ≠ f m := fun n => by
    simp only [List.mem_map, List.mem_filter, List.mem_range, bne_iff_ne]
    constructor
    · rintro ⟨m, ⟨h1, h2⟩, rfl⟩
      exact ⟨m, rfl, h1, h2⟩
    · rintro ⟨m, rfl, h1, h2⟩
      exact ⟨m, ⟨h1, h2⟩, rfl⟩
  have hw : Waveform.wf ⟨f 0, ((List.range horizon).filter fun n => f (n + 1) != f n).map (· + 1), .silent⟩ = true := by
    simp only [Waveform.wf, Tail.wf, Bool.and_true, Bool.and_eq_true, decide_eq_true_eq, List.all_eq_true]
    refine ⟨?_, fun e he => ?_⟩
    · rw [List.pairwise_map]
      exact (List.pairwise_lt_range.filter _).imp fun h => Nat.succ_lt_succ h
    · obtain ⟨m, rfl, -⟩ := (hmem e).1 he
      exact Nat.succ_pos m
  refine ⟨_, hw, fun τ hτ => ?_⟩
  induction τ with
  | zero => exact level_zero hw
  | succ τ ih =>
    rw [level_succ hw, ih (by omega)]
    have he := hasEdge_of_silent (w := ⟨f 0, ((List.range horizon).filter fun n => f (n + 1) != f n).map (· + 1), .silent⟩)
      rfl (τ + 1)
    by_cases hf : f (τ + 1) = f τ
    · have : Waveform.hasEdge ⟨f 0, ((List.range horizon).filter fun n => f (n + 1) != f n).map (· + 1), .silent⟩ (τ + 1) =
          false := by
        rw [Bool.eq_false_iff, Ne, he, hmem]
        rintro ⟨m, hm, -, hne⟩
        obtain rfl : τ = m := by omega
        exact hne hf
      rw [this, Bool.xor_false, hf]
    · rw [he.2 ((hmem _).2 ⟨τ, rfl, by omega, hf⟩)]
      cases hfτ : f τ <;> cases hfs : f (τ + 1) <;> simp_all

/-- The next edge after a time is unique. -/
theorem IsNextEdge_unique {w : Waveform} {τ a b : Nat} (ha : IsNextEdge w τ a) (hb : IsNextEdge w τ b) : a = b :=
  Nat.le_antisymm (ha.2.2 b hb.1 hb.2.1) (hb.2.2 a ha.1 ha.2.1)

theorem edgeBy_eq_some {w : Waveform} {D τ e : Nat} : edgeBy w D τ = some e ↔ IsNextEdge w τ e ∧ e ≤ D := by
  unfold edgeBy
  cases h : w.nextEdge τ with
  | none =>
    simp only [reduceCtorEq, false_iff, not_and]
    intro hn
    rw [nextEdge_eq_some.2 hn] at h
    cases h
  | some x =>
    have hx := nextEdge_eq_some.1 h
    constructor
    · intro h'
      dsimp only at h'
      split at h'
      · rename_i hle
        cases h'
        exact ⟨hx, hle⟩
      · cases h'
    · rintro ⟨hn, hle⟩
      have := IsNextEdge_unique hn hx
      subst this
      simp [hle]

/-- The pair a search from τs finds: the next two edges, both by the deadline (R105). -/
theorem pairFrom_eq_some {w : Waveform} {D τs τr τf : Nat} :
    pairFrom w D τs = some (τr, τf) ↔ IsNextEdge w τs τr ∧ IsNextEdge w τr τf ∧ τf ≤ D := by
  unfold pairFrom
  constructor
  · intro h
    split at h
    · cases h
    · rename_i a ha
      split at h
      · cases h
      · rename_i b hb
        cases h
        exact ⟨(edgeBy_eq_some.1 ha).1, edgeBy_eq_some.1 hb⟩
  · rintro ⟨h1, h2, h3⟩
    have hle : τr ≤ D := Nat.le_trans (Nat.le_of_lt h2.2.1) h3
    simp only [edgeBy_eq_some.2 ⟨h1, hle⟩, edgeBy_eq_some.2 ⟨h2, h3⟩]

/-- The search finds a pair exactly when there is a qualifying one (R102, R105). -/
theorem qualifyingPair_eq_some {c : Config} {w : Waveform} {τ0 τr τf : Nat} :
    qualifyingPair c w τ0 = some (τr, τf) ↔ QualifyingPair c w τ0 τr τf := by
  unfold qualifyingPair searchStart QualifyingPair
  by_cases hl : w.level τ0 = activeLevel c
  · simp only [hl, if_true, ne_eq, not_true_eq_false, false_and, true_and, false_or]
    cases hs : edgeBy w (τ0 + c.TIMEOUT_US) τ0 with
    | none =>
      simp only [reduceCtorEq, false_iff]
      rintro ⟨hf, hD, τs, h1, h2⟩
      have hle : τs ≤ τ0 + c.TIMEOUT_US := Nat.le_trans (Nat.le_of_lt (Nat.lt_trans h2.2.1 hf.2.1)) hD
      rw [edgeBy_eq_some.2 ⟨h1, hle⟩] at hs
      cases hs
    | some τs =>
      have hs' := (edgeBy_eq_some.1 hs).1
      simp only [pairFrom_eq_some]
      constructor
      · rintro ⟨h1, h2, h3⟩
        exact ⟨h2, h3, τs, hs', h1⟩
      · rintro ⟨h2, h3, τs', h0, h1⟩
        exact ⟨IsNextEdge_unique h0 hs' ▸ h1, h2, h3⟩
  · simp only [hl, if_false, ne_eq, not_false_eq_true, true_and, false_and, or_false, pairFrom_eq_some]
    tauto

theorem qualifyingPair_eq_none {c : Config} {w : Waveform} {τ0 : Nat} :
    qualifyingPair c w τ0 = none ↔ ∀ τr τf, ¬QualifyingPair c w τ0 τr τf := by
  constructor
  · intro h τr τf hq
    rw [qualifyingPair_eq_some.2 hq] at h
    cases h
  · intro h
    cases hq : qualifyingPair c w τ0 with
    | none => rfl
    | some p => exact absurd (qualifyingPair_eq_some.1 hq) (h p.1 p.2)

/-- A qualifying pair lies after τ0 and by the deadline (R102). -/
theorem QualifyingPair_bounds {c : Config} {w : Waveform} {τ0 τr τf : Nat} (h : QualifyingPair c w τ0 τr τf) :
    τ0 < τr ∧ τr < τf ∧ τf ≤ τ0 + c.TIMEOUT_US := by
  obtain ⟨hf, hD, h⟩ := h
  have hlt := hf.2.1
  rcases h with ⟨-, hr⟩ | ⟨-, τs, hs, hr⟩
  · exact ⟨hr.2.1, hlt, hD⟩
  · exact ⟨Nat.lt_trans hs.2.1 hr.2.1, hlt, hD⟩

/-- What MEASURE leaves, in its two cases (R104, R105). -/
theorem measureEffect_cases (s : State) :
    (∃ τr τf, QualifyingPair s.cfg s.env.pwm s.tau τr τf ∧
      measureEffect s = ((s.setSample (dutyOfWidth s.cfg (τf - τr)) true).setTime τf).setPhase .dirupd) ∨
    ((∀ τr τf, ¬QualifyingPair s.cfg s.env.pwm s.tau τr τf) ∧
      measureEffect s = ((s.setSample 0 false).setTime (s.tau + s.cfg.TIMEOUT_US)).setPhase .dirupd) := by
  cases h : qualifyingPair s.cfg s.env.pwm s.tau with
  | none => exact Or.inr ⟨qualifyingPair_eq_none.1 h, by simp [measureEffect, h]⟩
  | some p => exact Or.inl ⟨p.1, p.2, qualifyingPair_eq_some.1 h, by simp [measureEffect, h]⟩

theorem dutyOfWidth_eq (c : Config) (w : Nat) :
    dutyOfWidth c w = min (w * c.RESOLUTION * c.PWM_FREQUENCY / 1000000) c.RESOLUTION := by
  simp [dutyOfWidth, clamp]

theorem dutyOfWidth_le (c : Config) (w : Nat) : dutyOfWidth c w ≤ c.RESOLUTION := by
  rw [dutyOfWidth_eq]
  exact Nat.min_le_right _ _

end Sys2Proof.Machine
end

