-- ==== Sys2Proof/Laws/Effects.lean ====
section
/-! SUPPORT. The effect of each operation on single registers: where it leaves the phase, and what it does not touch. -/

namespace Sys2Proof.Machine

variable (s : State)

theorem effect_reset_phase : (effect .reset s).phase = encode .calhook := rfl
theorem effect_calhook_phase : (effect .calhook s).phase = encode .measure := rfl
theorem effect_measure_phase : (effect .measure s).phase = encode .dirupd := by
  simp only [effect]; unfold measureEffect; split <;> rfl
theorem effect_dirupd_phase : (effect .dirupd s).phase = encode .zrun := by
  simp only [effect]; unfold dirupdEffect; split <;> rfl
theorem effect_zrun_phase : (effect .zrun s).phase =
    if zeroForceFires s.cfg s.effectiveSample s.zr_count then encode .force0 else encode .accum := by
  simp only [effect]; unfold zrunEffect; split <;> rfl
theorem effect_force0_phase : (effect .force0 s).phase = encode .rtick := rfl
theorem effect_accum_phase : (effect .accum s).phase =
    if windowCloses s.cfg s.avg_count then encode .retarget else encode .rtick := by
  simp only [effect]; unfold accumEffect; split <;> rfl
theorem effect_retarget_phase : (effect .retarget s).phase = encode .rtick := rfl
theorem effect_rtick_phase : (effect .rtick s).phase = encode .outwr := by
  simp only [effect]; unfold rtickEffect; split <;> [rfl; (split <;> rfl)]
theorem effect_outwr_phase : (effect .outwr s).phase = encode .measure := rfl

variable {s}

/-- Only MEASURE and RESET move time (R340). -/
theorem effect_time {i : Instr} (hm : i ≠ .measure) (hr : i ≠ .reset) :
    (effect i s).tau = s.tau ∧ (effect i s).t_c = s.t_c := by
  cases i <;> simp only [effect]
  case reset => exact absurd rfl hr
  case calhook => exact ⟨rfl, rfl⟩
  case measure => exact absurd rfl hm
  case dirupd => unfold dirupdEffect; split <;> exact ⟨rfl, rfl⟩
  case zrun => unfold zrunEffect; split <;> exact ⟨rfl, rfl⟩
  case force0 => exact ⟨rfl, rfl⟩
  case accum => unfold accumEffect; split <;> exact ⟨rfl, rfl⟩
  case retarget => exact ⟨rfl, rfl⟩
  case rtick => unfold rtickEffect; split <;> [exact ⟨rfl, rfl⟩; (split <;> exact ⟨rfl, rfl⟩)]
  case outwr => exact ⟨rfl, rfl⟩

/-- Only OUTWR and RESET write the output (R31). -/
theorem effect_pwm_out {i : Instr} (ho : i ≠ .outwr) (hr : i ≠ .reset) : (effect i s).pwm_out = s.pwm_out := by
  cases i <;> simp only [effect]
  case reset => exact absurd rfl hr
  case calhook => rfl
  case measure => unfold measureEffect; split <;> rfl
  case dirupd => unfold dirupdEffect; split <;> rfl
  case zrun => unfold zrunEffect; split <;> rfl
  case force0 => rfl
  case accum => unfold accumEffect; split <;> rfl
  case retarget => rfl
  case rtick => unfold rtickEffect; split <;> [rfl; (split <;> rfl)]
  case outwr => exact absurd rfl ho

/-- Only DIRUPD and RESET write the direction registers (R30). -/
theorem effect_direction {i : Instr} (hd : i ≠ .dirupd) (hr : i ≠ .reset) :
    (effect i s).dir_latched = s.dir_latched ∧ (effect i s).dir_valid = s.dir_valid := by
  cases i <;> simp only [effect]
  case reset => exact absurd rfl hr
  case calhook => exact ⟨rfl, rfl⟩
  case measure => unfold measureEffect; split <;> exact ⟨rfl, rfl⟩
  case dirupd => exact absurd rfl hd
  case zrun => unfold zrunEffect; split <;> exact ⟨rfl, rfl⟩
  case force0 => exact ⟨rfl, rfl⟩
  case accum => unfold accumEffect; split <;> exact ⟨rfl, rfl⟩
  case retarget => exact ⟨rfl, rfl⟩
  case rtick => unfold rtickEffect; split <;> [exact ⟨rfl, rfl⟩; (split <;> exact ⟨rfl, rfl⟩)]
  case outwr => exact ⟨rfl, rfl⟩

/-- Only MEASURE and RESET write the sample (R23). -/
theorem effect_sample {i : Instr} (hm : i ≠ .measure) (hr : i ≠ .reset) :
    (effect i s).smp_value = s.smp_value ∧ (effect i s).smp_valid = s.smp_valid := by
  cases i <;> simp only [effect]
  case reset => exact absurd rfl hr
  case calhook => exact ⟨rfl, rfl⟩
  case measure => exact absurd rfl hm
  case dirupd => unfold dirupdEffect; split <;> exact ⟨rfl, rfl⟩
  case zrun => unfold zrunEffect; split <;> exact ⟨rfl, rfl⟩
  case force0 => exact ⟨rfl, rfl⟩
  case accum => unfold accumEffect; split <;> exact ⟨rfl, rfl⟩
  case retarget => exact ⟨rfl, rfl⟩
  case rtick => unfold rtickEffect; split <;> [exact ⟨rfl, rfl⟩; (split <;> exact ⟨rfl, rfl⟩)]
  case outwr => exact ⟨rfl, rfl⟩

/-- Only ZRUN and RESET write the zero-run counter (R27). -/
theorem effect_zr_count {i : Instr} (hz : i ≠ .zrun) (hr : i ≠ .reset) : (effect i s).zr_count = s.zr_count := by
  cases i <;> simp only [effect]
  case reset => exact absurd rfl hr
  case calhook => rfl
  case measure => unfold measureEffect; split <;> rfl
  case dirupd => unfold dirupdEffect; split <;> rfl
  case zrun => exact absurd rfl hz
  case force0 => rfl
  case accum => unfold accumEffect; split <;> rfl
  case retarget => rfl
  case rtick => unfold rtickEffect; split <;> [rfl; (split <;> rfl)]
  case outwr => rfl

theorem effect_zrun_zr_count : (effect .zrun s).zr_count = zeroCountNext s.cfg s.effectiveSample s.zr_count := by
  simp only [effect]; unfold zrunEffect; split <;> rfl

/-- OUTWR leaves the driven duty on the output (R230). -/
theorem effect_outwr_driven : (effect .outwr s).pwm_out = outputValue (effect .outwr s).cfg (effect .outwr s).cur := rfl

/-- Only FORCE0, RETARGET, RTICK and RESET write the ramp registers, and OUTWR reads the duty only (R28). -/
theorem effect_ramp {i : Instr} (h1 : i ≠ .force0) (h2 : i ≠ .retarget) (h3 : i ≠ .rtick) (hr : i ≠ .reset) :
    (effect i s).cur = s.cur ∧ (effect i s).tgt = s.tgt ∧ (effect i s).start_duty = s.start_duty ∧
      (effect i s).start_time = s.start_time ∧ (effect i s).duration = s.duration ∧ (effect i s).kind = s.kind := by
  cases i <;> simp only [effect]
  case reset => exact absurd rfl hr
  case calhook => exact ⟨rfl, rfl, rfl, rfl, rfl, rfl⟩
  case measure => unfold measureEffect; split <;> exact ⟨rfl, rfl, rfl, rfl, rfl, rfl⟩
  case dirupd => unfold dirupdEffect; split <;> exact ⟨rfl, rfl, rfl, rfl, rfl, rfl⟩
  case zrun => unfold zrunEffect; split <;> exact ⟨rfl, rfl, rfl, rfl, rfl, rfl⟩
  case force0 => exact absurd rfl h1
  case accum => unfold accumEffect; split <;> exact ⟨rfl, rfl, rfl, rfl, rfl, rfl⟩
  case retarget => exact absurd rfl h2
  case rtick => exact absurd rfl h3
  case outwr => exact ⟨rfl, rfl, rfl, rfl, rfl, rfl⟩

/-- FORCE0 leaves an idle ramp at 0, an empty window and an empty latch (R151). -/
theorem effect_force0 : (effect .force0 s).cur = 0 ∧ (effect .force0 s).tgt = 0 ∧ (effect .force0 s).kind = .none ∧
    (effect .force0 s).avg_sum = 0 ∧ (effect .force0 s).avg_count = 0 ∧ (effect .force0 s).force_pending = false ∧
      (effect .force0 s).tgt_pending = s.tgt_pending ∧ (effect .force0 s).tgt_value = s.tgt_value :=
  ⟨rfl, rfl, rfl, rfl, rfl, rfl, rfl, rfl⟩

/-- Only ACCUM, FORCE0 and RESET write the window (R25). -/
theorem effect_window {i : Instr} (ha : i ≠ .accum) (hf : i ≠ .force0) (hr : i ≠ .reset) :
    (effect i s).avg_sum = s.avg_sum ∧ (effect i s).avg_count = s.avg_count := by
  cases i <;> simp only [effect]
  case reset => exact absurd rfl hr
  case calhook => exact ⟨rfl, rfl⟩
  case measure => unfold measureEffect; split <;> exact ⟨rfl, rfl⟩
  case dirupd => unfold dirupdEffect; split <;> exact ⟨rfl, rfl⟩
  case zrun => unfold zrunEffect; split <;> exact ⟨rfl, rfl⟩
  case force0 => exact absurd rfl hf
  case accum => exact absurd rfl ha
  case retarget => exact ⟨rfl, rfl⟩
  case rtick => unfold rtickEffect; split <;> [exact ⟨rfl, rfl⟩; (split <;> exact ⟨rfl, rfl⟩)]
  case outwr => exact ⟨rfl, rfl⟩

/-- Only ACCUM, RETARGET and RESET write the emission latch (R26). -/
theorem effect_emission {i : Instr} (ha : i ≠ .accum) (ht : i ≠ .retarget) (hr : i ≠ .reset) :
    (effect i s).tgt_pending = s.tgt_pending ∧ (effect i s).tgt_value = s.tgt_value := by
  cases i <;> simp only [effect]
  case reset => exact absurd rfl hr
  case calhook => exact ⟨rfl, rfl⟩
  case measure => unfold measureEffect; split <;> exact ⟨rfl, rfl⟩
  case dirupd => unfold dirupdEffect; split <;> exact ⟨rfl, rfl⟩
  case zrun => unfold zrunEffect; split <;> exact ⟨rfl, rfl⟩
  case force0 => exact ⟨rfl, rfl⟩
  case accum => exact absurd rfl ha
  case retarget => exact absurd rfl ht
  case rtick => unfold rtickEffect; split <;> [exact ⟨rfl, rfl⟩; (split <;> exact ⟨rfl, rfl⟩)]
  case outwr => exact ⟨rfl, rfl⟩

/-- An idle ramp stays where it is in a tick (R176). -/
theorem effect_rtick_idle_cur (h : s.kind = .none) : (effect .rtick s).cur = s.cur ∧ (effect .rtick s).kind = .none := by
  simp only [effect]
  rw [rtickEffect, if_pos h]
  exact ⟨rfl, h⟩

/-- An idle ramp's tick moves the phase on and nothing else (R176). -/
theorem effect_rtick_idle (h : s.kind = .none) : effect .rtick s = s.setPhase .outwr := by
  simp only [effect]
  rw [rtickEffect, if_pos h]

end Sys2Proof.Machine
end

