-- ==== Sys2Proof/Laws/Output.lean ====
section
/-! SUPPORT. The calibration map (45_output.md R231, R232). -/

namespace Sys2Proof.Machine

/-- The table holds the map's value of every duty (R232). -/
theorem calibrationTable_get {c : Config} {d : Nat} (h : d ≤ c.RESOLUTION) : (calibrationTable c)[d]? = some (lutRead c d) := by
  have : d < c.RESOLUTION + 1 := Nat.lt_succ_of_le h
  simp [calibrationTable, lutRead, this]

/-- The map of a duty never exceeds CAL_UPPER (R231). -/
theorem calmap_le {c : Config} {d : Nat} (hb : c.CAL_LOWER ≤ c.CAL_UPPER) (hd : d ≤ c.RESOLUTION) : calmap c d ≤ c.CAL_UPPER := by
  unfold calmap
  split
  · exact Nat.zero_le _
  · have h1 : d * (c.CAL_UPPER - c.CAL_LOWER) / c.RESOLUTION ≤ c.RESOLUTION * (c.CAL_UPPER - c.CAL_LOWER) / c.RESOLUTION :=
      Nat.div_le_div_right (Nat.mul_le_mul_right _ hd)
    have h2 : c.RESOLUTION * (c.CAL_UPPER - c.CAL_LOWER) / c.RESOLUTION ≤ c.CAL_UPPER - c.CAL_LOWER :=
      Nat.div_le_of_le_mul (Nat.le_refl _)
    omega

/-- A driven duty fits PWM_OUT under a well-formed configuration (R10, R230). -/
theorem outputValue_le {c : Config} {d : Nat} (hw : c.wf = true) (hd : d ≤ c.RESOLUTION) :
    outputValue c d ≤ c.OUT_MAX := by
  unfold outputValue
  split
  · rename_i he
    exact Nat.le_trans (calmap_le (c.calibration_le hw he).1 hd) (c.calibration_le hw he).2
  · rename_i he
    exact Nat.le_trans hd (c.output_fits hw (Bool.eq_false_iff.2 he))

/-- Duty 0 is driven as 0 (R231, R339). -/
theorem outputValue_zero {c : Config} (h : zeroDrivesZero c) : outputValue c 0 = 0 := by
  unfold outputValue lutRead calmap
  rcases h with h | h <;> simp [h]

end Sys2Proof.Machine
end

