-- ==== Sys2Proof/Laws/PerInstr.lean ====
section
/-! SUPPORT. Statements about every operation as syntax, one lemma per constructor (LAWS.json, "per_instruction"). -/

namespace Sys2Proof.Laws.Mnemonic

/-- R86: an operation is well formed, and its mnemonic names it and no other. -/
def Statement (i : Instr) : Prop :=
  i.wf = true ∧ instrOfMnemonic i.mnemonic = some i ∧ ∀ j : Instr, j.mnemonic = i.mnemonic → j = i

theorem reset : Statement .reset := ⟨rfl, by decide, fun j => by cases j <;> decide⟩
theorem calhook : Statement .calhook := ⟨rfl, by decide, fun j => by cases j <;> decide⟩
theorem measure : Statement .measure := ⟨rfl, by decide, fun j => by cases j <;> decide⟩
theorem dirupd : Statement .dirupd := ⟨rfl, by decide, fun j => by cases j <;> decide⟩
theorem zrun : Statement .zrun := ⟨rfl, by decide, fun j => by cases j <;> decide⟩
theorem force0 : Statement .force0 := ⟨rfl, by decide, fun j => by cases j <;> decide⟩
theorem accum : Statement .accum := ⟨rfl, by decide, fun j => by cases j <;> decide⟩
theorem retarget : Statement .retarget := ⟨rfl, by decide, fun j => by cases j <;> decide⟩
theorem rtick : Statement .rtick := ⟨rfl, by decide, fun j => by cases j <;> decide⟩
theorem outwr : Statement .outwr := ⟨rfl, by decide, fun j => by cases j <;> decide⟩

end Sys2Proof.Laws.Mnemonic
end

