-- ==== Sys2Proof/Laws/Ramp.lean ====
section
/-! SUPPORT. The arithmetic of the ramp (43_ramp.md R176, R177) and the outcomes of the decision sequence (R170 to R174). -/

namespace Sys2Proof.Machine

@[simp] theorem modSub_self (a k : Nat) : modSub a a k = 0 := by simp [modSub]

theorem modSub_lt (a b k : Nat) : modSub a b k < 2 ^ k := by
  have hp : (0 : Int) < (2 ^ k : Nat) := by exact_mod_cast Nat.two_pow_pos k
  have h0 := Int.emod_nonneg ((a : Int) - b) (ne_of_gt hp)
  have h1 := Int.emod_lt_of_pos ((a : Int) - b) hp
  unfold modSub
  omega

/-- The modular difference of two images on the wrapping counter is the true difference while that is below the modulus
(R337). -/
theorem modSub_mod {a b k : Nat} (hle : b ≤ a) (hlt : a - b < 2 ^ k) : modSub (a % 2 ^ k) (b % 2 ^ k) k = a - b := by
  unfold modSub
  have : ((a % 2 ^ k : Nat) : Int) - ((b % 2 ^ k : Nat) : Int) ≡ ((a - b : Nat) : Int) [ZMOD (2 ^ k : Nat)] := by
    rw [Int.natCast_mod, Int.natCast_mod, Nat.cast_sub hle]
    exact Int.ModEq.sub (Int.mod_modEq _ _) (Int.mod_modEq _ _)
  rw [this.eq, ← Int.natCast_mod, Nat.mod_eq_of_lt hlt, Int.toNat_natCast]

/-- A share never exceeds the whole. -/
theorem share_le (x : Nat) {e d : Nat} (he : e ≤ d) : x * e / d ≤ x :=
  Nat.div_le_of_le_mul (Nat.mul_comm d x ▸ Nat.mul_le_mul_left x he)

/-- A rising interpolation adds the floor of its share (R177). -/
theorem lerp_rising {a b : Nat} (e d : Nat) (h : a ≤ b) : lerp a b e d = a + (b - a) * e / d := by
  have hc : ((b : Int) - a) * e = (((b - a) * e : Nat) : Int) := by rw [Nat.cast_mul, Nat.cast_sub h]
  rw [lerp, trunc0, hc, Int.natCast_mul, ← Int.natCast_mul, ← Int.ofNat_tdiv, ← Int.natCast_add, Int.toNat_natCast]

/-- A falling interpolation takes the floor of its share off, since the quotient is rounded toward zero (R177). -/
theorem lerp_falling {a b e d : Nat} (h : b ≤ a) (he : e ≤ d) : lerp a b e d = a - (a - b) * e / d := by
  have hc : ((b : Int) - a) * e = -(((a - b) * e : Nat) : Int) := by
    rw [Nat.cast_mul, Nat.cast_sub h]
    ring
  have hle : (a - b) * e / d ≤ a := by
    exact Nat.le_trans (share_le (a - b) he) (Nat.sub_le _ _)
  rw [lerp, trunc0, hc, Int.neg_tdiv, ← Int.ofNat_tdiv]
  omega

/-- A share grows with the elapsed time. -/
theorem share_mono (x d : Nat) {e e' : Nat} (h : e ≤ e') : x * e / d ≤ x * e' / d :=
  Nat.div_le_div_right (Nat.mul_le_mul_left _ h)

/-- The interpolation never passes either end (R177). -/
theorem lerp_between (a b : Nat) {e d : Nat} (he : e ≤ d) : min a b ≤ lerp a b e d ∧ lerp a b e d ≤ max a b := by
  rcases Nat.le_total a b with h | h
  · have := share_le (b - a) he
    rw [lerp_rising e d h, Nat.min_eq_left h, Nat.max_eq_right h]
    generalize (b - a) * e / d = q at this ⊢
    omega
  · have := share_le (a - b) he
    rw [lerp_falling h he, Nat.min_eq_right h, Nat.max_eq_left h]
    generalize (a - b) * e / d = q at this ⊢
    omega

/-- At elapsed 0 the interpolation is at its start. -/
@[simp] theorem lerp_zero (a b d : Nat) : lerp a b 0 d = a := by
  simp [lerp, trunc0]

theorem absDiff_eq (a b : Nat) : absDiff a b = ((a : Int) - b).natAbs := rfl

theorem newTarget_eq (s : State) : newTarget s = min s.tgt_value s.cfg.RESOLUTION := by simp [newTarget, clamp]

/-- RETARGET's setup is a jump to the target, or a ramp of its kind's nonzero length from the driven duty or, for a start,
from LOW_JUMP_LIMIT (R171 to R174). -/
theorem rampSetup_cases (s : State) :
    rampSetup s = jumpTo (newTarget s) ∨
    (s.cur = 0 ∧ s.cfg.LOW_JUMP_LIMIT < newTarget s ∧ 0 < s.cfg.START_US ∧
      rampSetup s = rampFrom s.cfg.LOW_JUMP_LIMIT s.cfg.START_US .start) ∨
    (0 < s.cur ∧ newTarget s = 0 ∧ 0 < s.cfg.STOP_US ∧
      rampSetup s = rampFrom s.cur s.cfg.STOP_US .stop) ∨
    (0 < s.cur ∧ 0 < newTarget s ∧ 0 < s.cfg.TRANS_US ∧
      rampSetup s = rampFrom s.cur s.cfg.TRANS_US .transition) := by
  unfold rampSetup classify
  by_cases h1 : absDiff (newTarget s) s.cur ≤ s.cfg.IGNORE_RANGE
  · left; simp [h1, completeZeroLength, jumpTo]
  by_cases h2 : s.cur = 0
  · by_cases h3 : newTarget s ≤ s.cfg.LOW_JUMP_LIMIT
    · left; simp only [h2, h3]; split <;> simp [completeZeroLength, jumpTo]
    · by_cases h4 : s.cfg.START_US = 0
      · left; rw [if_neg h1, if_pos h2, if_neg h3]; simp [completeZeroLength, rampFrom, h4]
      · right; left
        refine ⟨h2, by omega, by omega, ?_⟩
        rw [if_neg h1, if_pos h2, if_neg h3]; simp [completeZeroLength, rampFrom, h4]
  · by_cases h3 : newTarget s = 0
    · by_cases h4 : s.cfg.STOP_US = 0
      · left; rw [if_neg h1, if_neg h2, if_pos h3]; simp [completeZeroLength, rampFrom, h4]
      · right; right; left
        refine ⟨by omega, h3, by omega, ?_⟩
        rw [if_neg h1, if_neg h2, if_pos h3]; simp [completeZeroLength, rampFrom, h4]
    · by_cases h4 : s.cfg.TRANS_US = 0
      · left; rw [if_neg h1, if_neg h2, if_neg h3]; simp [completeZeroLength, rampFrom, h4]
      · right; right; right
        refine ⟨by omega, by omega, by omega, ?_⟩
        rw [if_neg h1, if_neg h2, if_neg h3]; simp [completeZeroLength, rampFrom, h4]

end Sys2Proof.Machine
end

