-- ==== Sys2Proof/Laws/Run.lean ====
section
/-! SUPPORT. Runs of several steps: one step at a time, two runs in a row, and a run whose operations are known beforehand. -/

namespace Sys2Proof.Machine

/-- A run that starts with a step to `t` goes on from `t`. -/
theorem run_next {M : Host.Core} {s t : M.State} (n : Nat) (h : M.step s = .next t) : M.run (n + 1) s = M.run n t := by
  simp only [Host.Core.run, h]

theorem run_fault {M : Host.Core} {s : M.State} {r : M.Fault} (n : Nat) (h : M.step s = .fault r) :
    M.run (n + 1) s = .fault r := by
  simp only [Host.Core.run, h]

theorem run_refused {M : Host.Core} {s : M.State} {r : M.Refusal} (n : Nat) (h : M.step s = .refused r) :
    M.run (n + 1) s = .refused r := by
  simp only [Host.Core.run, h]

/-- A run of `m + n` steps is a run of `m` and then one of `n`. -/
theorem run_add {M : Host.Core} {m n : Nat} {s t : M.State} (h : M.run m s = .next t) : M.run (m + n) s = M.run n t := by
  induction m generalizing s with
  | zero =>
    rw [Nat.zero_add]
    simp only [Host.Core.run, Host.Outcome.next.injEq] at h
    rw [h]
  | succ m ih =>
    rw [Nat.succ_add]
    cases hs : M.step s with
    | next u =>
      rw [run_next _ hs] at h ⊢
      exact ih h
    | fault r =>
      rw [run_fault _ hs] at h
      cases h
    | refused r =>
      rw [run_refused _ hs] at h
      cases h

/-- The operations of the list follow one another from `s` to `t`, each in its own phase. -/
inductive Follows : List Instr → State → State → Prop
  | nil (s : State) : Follows [] s s
  | cons {i : Instr} {rest : List Instr} {s t : State} : s.phase = encode i → Follows rest (effect i s) t →
      Follows (i :: rest) s t

/-- Operations that follow one another are what the machine runs, and what `wordsRun` reports. -/
theorem Follows_run {ops : List Instr} {s t : State} (h : Follows ops s t) (hw : s.cfg.wf = true) (hs : s.stream = []) :
    Host.Core.run Sys2Proof.core ops.length s = .next t ∧ wordsRun ops.length s = encodeTrace ops ∧ t.stream = [] ∧
      t.cfg = s.cfg ∧ t.env = s.env := by
  induction h with
  | nil s => exact ⟨rfl, rfl, hs, rfl, rfl⟩
  | @cons i rest s t hp _ ih =>
    have hst : step s = .next (effect i s) := step_of_phase hw hs hp
    obtain ⟨hr, hwd, hstr, hc, he⟩ := ih (by simpa using hw) (by simpa using hs)
    refine ⟨?_, ?_, hstr, by simpa using hc, by simpa using he⟩
    · rw [List.length_cons, run_next (M := Sys2Proof.core) _ hst, hr]
    · rw [List.length_cons, wordsRun, hst]
      simp only [hwd, nextWord, hs, hp]
      rfl

end Sys2Proof.Machine
end

