-- ==== Sys2Proof/Tests/Slice0.lean ====
section
/-! SUPPORT. The model's own tests: words and vectors written out in the spec (30_encoding.md R81, 95_test_vectors.md parts 1
and 2), ill-formed configurations, and for every obligation that has hypotheses a concrete state that meets them. -/

namespace Sys2Proof.Tests

open Sys2Proof.Machine

/-! ### Helpers -/

/-- A state in the phase of `i`, everything else as after a reset under `c`. -/
def inPhase (c : Config) (i : Instr) : State :=
  { State.reset with cfg := c, zr_count := c.ZERO_RUN_BASELINE, phase := encode i }

/-- Whether an operation answered a next state of which `p` holds. -/
def after (r : Result) (p : State → Bool) : Bool :=
  match r with
  | .next t => p t
  | .fault _ => false
  | .refused _ => false

/-- Whether an operation was refused for the reason `k`. -/
def refusedFor (r : Result) (k : Refusal) : Bool :=
  match r with
  | .next _ => false
  | .fault _ => false
  | .refused k' => k' == k

/-! ### Decoding: every word of R81, bit by bit -/

theorem test_decode_reset : decode 0b0000#4 = some .reset := by decide
theorem test_decode_calhook : decode 0b0001#4 = some .calhook := by decide
theorem test_decode_measure : decode 0b0010#4 = some .measure := by decide
theorem test_decode_dirupd : decode 0b0011#4 = some .dirupd := by decide
theorem test_decode_zrun : decode 0b0100#4 = some .zrun := by decide
theorem test_decode_force0 : decode 0b0101#4 = some .force0 := by decide
theorem test_decode_accum : decode 0b0110#4 = some .accum := by decide
theorem test_decode_retarget : decode 0b0111#4 = some .retarget := by decide
theorem test_decode_rtick : decode 0b1000#4 = some .rtick := by decide
theorem test_decode_outwr : decode 0b1001#4 = some .outwr := by decide
theorem test_decode_reserved :
    [0b1010#4, 0b1011#4, 0b1100#4, 0b1101#4, 0b1110#4, 0b1111#4].map decodeWord = List.replicate 6 .reserved := by decide
theorem test_decodeTableWord : decodeTableWord 8 0x7 = some .retarget ∧ decodeTableWord 8 0xB = none ∧
    decodeTableWord 8 0x17 = none := by decide

/-- R86: lower case is no mnemonic; an annotation changes nothing. -/
theorem test_trace : readTrace ["RESET      ; @τ=0".toList, "".toList, "CALHOOK".toList, "MEASURE @τ=885".toList] =
    some [.reset, .calhook, .measure] ∧ readTrace ["rtick".toList] = none := by decide

/-! ### WellFormed: one ill-formed configuration for each clause of R8 -/

theorem test_wf_examples : Config.ex1.wf = true ∧ Config.ex2.wf = true ∧ Config.ex1.W = 100 ∧ Config.ex1.TIMEOUT_US = 3000 ∧
    Config.ex2.W = 4 ∧ Config.ex2.TIMEOUT_US = 2000 := by decide
theorem test_wf_resolution : { Config.ex1 with RESOLUTION := 0, LOW_JUMP_LIMIT := 0 }.wf = false := by decide
theorem test_wf_pwm_frequency : { Config.ex1 with PWM_FREQUENCY := 0 }.wf = false := by decide
theorem test_wf_determine_freq : { Config.ex1 with DETERMINE_FREQ := 2000 }.wf = false ∧
    { Config.ex1 with DETERMINE_FREQ := 0 }.wf = false := by decide
theorem test_wf_timeout : { Config.ex1 with CYCLES_PARSED := 0 }.wf = false ∧
    { Config.ex1 with PWM_FREQUENCY := 3000001 }.wf = false := by decide
theorem test_wf_low_jump : { Config.ex1 with LOW_JUMP_LIMIT := 256 }.wf = false := by decide
theorem test_wf_baseline : { Config.ex1 with ZERO_RUN_BASELINE := 0 }.wf = false := by decide
theorem test_wf_out_max : { Config.ex1 with OUT_MAX := 0 }.wf = false := by decide
theorem test_wf_calibration : { Config.ex1 with CAL_ENABLE := true, CAL_LOWER := 200, CAL_UPPER := 100 }.wf = false ∧
    { Config.ex1 with CAL_ENABLE := true, CAL_LOWER := 0, CAL_UPPER := 256 }.wf = false ∧
    { Config.ex1 with CAL_ENABLE := false, CAL_LOWER := 200, CAL_UPPER := 100 }.wf = true := by decide
theorem test_wf_output_fits : { Config.ex1 with OUT_MAX := 254 }.wf = false ∧
    { Config.ex1 with OUT_MAX := 254, CAL_ENABLE := true, CAL_UPPER := 254 }.wf = true := by decide
theorem test_wf_time_width : { Config.ex1 with TIME_WIDTH := 1, SOFT_START_TIME := 0, SOFT_STOP_TIME := 0, SOFT_TRANSITION_TIME := 0, CYCLES_PARSED := 1, PWM_FREQUENCY := 1000000 }.wf = false ∧
    { Config.ex1 with TIME_WIDTH := 20 }.wf = false ∧ { Config.ex1 with TIME_WIDTH := 21 }.wf = true := by decide

/-! ### One operation at a time -/

/-- A MEASURE that starts at τ0 on a line with this level at 0 and these edges: value, validity, end. -/
def measures (c : Config) (τ0 : Nat) (level0 : Bool) (edges : List Nat) (value : Nat) (valid : Bool) (ends : Nat) : Bool :=
  after
    (exec .measure
      { inPhase c .measure with
        env := { Env.silent with pwm := { level0 := level0, edges := edges } }, tau := τ0, t_c := nowAt c τ0 })
    (fun t => t.smp_value == value && t.smp_valid == valid && t.tau == ends && t.t_c == ends % 2 ^ 32)

/-- 95_test_vectors.md part 2.2, M1, M2 and M4 to M10 with M13 and M14. -/
theorem test_measure_vectors :
    measures .ex1 0 false [200, 700] 127 true 700 ∧ measures .ex1 0 true [300, 1000, 1400] 102 true 1400 ∧
      measures .ex1 0 true [] 0 false 3000 ∧ measures .ex1 0 false [2500, 3200] 0 false 3000 ∧
      measures .ex1 0 false [2500, 3000] 127 true 3000 ∧ measures .ex1 0 false [3000, 3100] 0 false 3000 ∧
      measures .ex1 0 true [3100] 0 false 3000 ∧ measures .ex1 0 false [100, 1150] 255 true 1150 ∧
      measures .ex1 0 false [100, 1100] 255 true 1100 ∧ measures .ex1 500 false [500, 900, 1200, 1500] 76 true 1500 ∧
      measures .ex1 (2 ^ 32 - 100) false [2 ^ 32 + 100, 2 ^ 32 + 600] 127 true (2 ^ 32 + 600) := by decide

/-- 95_test_vectors.md part 2.2, M15, M16 (active low), M11 and M12; and program 1, cycle 2: a steady line that never falls
silent. -/
theorem test_measure_active_low_short_and_steady :
    measures { Config.ex1 with SAMPLE_ACTIVE_HIGH := false } 0 true [200, 700] 127 true 700 ∧
      measures { Config.ex1 with SAMPLE_ACTIVE_HIGH := false } 0 false [300, 1000, 1400] 102 true 1400 ∧
      measures .ex1 0 false [100, 103] 0 true 103 ∧ measures .ex1 0 false [10, 14] 1 true 14 ∧
      after
        (exec .measure
          { inPhase .ex2 .measure with
            env := { Env.silent with pwm := { level0 := false, edges := [], tail := .repeating [100, 885] 1000 } }
            tau := 885, t_c := 885 })
        (fun t => t.smp_value == 200 && t.smp_valid && t.tau == 1885) := by decide

/-- An ACCUM of this sample on this window: the sum and count after it. -/
def accumulates (sum count value : Nat) (valid : Bool) (sum' count' : Nat) (emitted : Option Nat) : Bool :=
  after (exec .accum { inPhase .ex2 .accum with avg_sum := sum, avg_count := count, smp_value := value, smp_valid := valid })
    (fun t => t.avg_sum == sum' && t.avg_count == count' && t.tgt_pending == emitted.isSome &&
      (emitted == none || emitted == some t.tgt_value) && t.phase == (if emitted.isSome then 0x7#4 else 0x8#4))

/-- 95_test_vectors.md part 2.3: an invalid sample counts as 0 (here under a stale value, which R130 still reads as 0). -/
theorem test_accum_fills : accumulates 0 0 37 true 37 1 none ∧ accumulates 200 1 0 false 200 2 none ∧
    accumulates 200 1 99 false 200 2 none := by decide

/-- 95_test_vectors.md part 2.3: the floor of 43/4, of 1019/4, and 0.5 to 0. -/
theorem test_accum_emits : accumulates 32 3 11 true 0 0 (some 10) ∧ accumulates 765 3 254 true 0 0 (some 254) ∧
    accumulates 600 3 200 true 0 0 (some 200) ∧ accumulates 2 3 0 true 0 0 (some 0) := by decide

/-- A ZRUN of this sample on this counter under EX2 (N = 1, B = -1): the counter after it, and whether it fires. -/
def counts (zr : Int) (value : Nat) (zr' : Int) (fires : Bool) : Bool :=
  after (exec .zrun { inPhase .ex2 .zrun with zr_count := zr, smp_value := value, smp_valid := true })
    (fun t => t.zr_count == zr' && t.force_pending == fires && t.phase == (if fires then 0x5#4 else 0x6#4))

/-- 95_test_vectors.md part 2.4, first row. -/
theorem test_zrun_counts : counts (-1) 0 0 false ∧ counts 0 0 1 false ∧ counts 1 0 2 true ∧ counts 2 0 2 false ∧
    counts 2 5 (-1) false := by decide

/-- A timed-out sample is a zero sample (R150). -/
theorem test_zrun_invalid : after (exec .zrun { inPhase .ex2 .zrun with zr_count := 1, smp_value := 7, smp_valid := false })
    (fun t => t.zr_count == 2 && t.force_pending) := by decide

/-- 95_test_vectors.md part 2.4, FORCE0 vector. -/
theorem test_force0 :
    after
      (exec .force0
        { inPhase .ex2 .force0 with
          cur := 100, tgt := 100, avg_sum := 200, avg_count := 2, t_c := 16000, tau := 16000, force_pending := true })
      (fun t => t.cur == 0 && t.tgt == 0 && t.start_duty == 0 && t.start_time == 16000 && t.duration == 0 && t.kind == .none &&
        t.avg_sum == 0 && t.avg_count == 0 && !t.force_pending && t.phase == 0x8#4) := by decide

/-- 95_test_vectors.md part 2.4: FORCE0 during a stop ramp. -/
theorem test_force0_in_stop_ramp :
    after (exec .force0 { inPhase .ex1 .force0 with cur := 90, start_duty := 180, tgt := 0, duration := 500000, kind := .stop })
      (fun t => t.cur == 0 && t.kind == .none) := by decide

/-- A RETARGET from `cur` to a mean: cur, tgt, start_duty, duration, kind. -/
def retargets (c : Config) (cur mean cur' sd' dur' : Nat) (kind' : Kind) : Bool :=
  after (exec .retarget { inPhase c .retarget with cur := cur, tgt := cur, tgt_value := mean, tgt_pending := true })
    (fun t => t.cur == cur' && t.tgt == mean && t.start_duty == sd' && t.duration == dur' && t.kind == kind' &&
      t.start_time == 0 && !t.tgt_pending && t.phase == 0x8#4)

/-- 95_test_vectors.md part 2.5, T1 to T12. -/
theorem test_retarget_vectors :
    retargets .ex1 0 200 22 22 1000000 .start ∧ retargets .ex1 0 15 15 15 0 .none ∧ retargets .ex1 0 22 22 22 0 .none ∧
      retargets .ex1 0 23 22 22 1000000 .start ∧ retargets .ex1 0 2 2 2 0 .none ∧ retargets .ex1 0 3 3 3 0 .none ∧
      retargets .ex1 180 0 180 180 500000 .stop ∧ retargets .ex1 3 0 3 3 500000 .stop ∧ retargets .ex1 2 0 0 0 0 .none ∧
      retargets .ex1 100 50 100 100 800000 .transition ∧ retargets .ex1 100 101 101 101 0 .none ∧
      retargets .ex1 100 103 100 100 800000 .transition := by decide

/-- 95_test_vectors.md part 2.5, T15 to T19. -/
theorem test_retarget_variants :
    retargets { Config.ex1 with SOFT_START_TIME := 0 } 0 200 200 200 0 .none ∧
      retargets { Config.ex1 with SOFT_STOP_TIME := 0 } 180 0 0 0 0 .none ∧
      retargets { Config.ex1 with SOFT_TRANSITION_TIME := 0 } 100 50 50 50 0 .none ∧
      retargets { Config.ex1 with IGNORE_RANGE := 40 } 0 30 30 30 0 .none ∧
      retargets { Config.ex1 with LOW_JUMP_LIMIT := 0 } 0 200 0 0 1000000 .start := by decide

/-- An RTICK of this ramp at this time: the duty and the kind after it. -/
def ticks (sd tgt st dur : Nat) (kind : Kind) (now cur' : Nat) (kind' : Kind) : Bool :=
  after
    (exec .rtick
      { inPhase .ex1 .rtick with
        cur := sd, start_duty := sd, tgt := tgt, start_time := st, duration := dur, kind := kind, t_c := now, tau := now })
    (fun t => t.cur == cur' && t.kind == kind' && t.duration == dur && t.phase == 0x9#4)

/-- 95_test_vectors.md part 2.6: the start ramp, and the same across the wrap of NOW. -/
theorem test_rtick_rising :
    ticks 22 200 0 1000000 .start 0 22 .start ∧ ticks 22 200 0 1000000 .start 250000 66 .start ∧
      ticks 22 200 0 1000000 .start 999999 199 .start ∧ ticks 22 200 0 1000000 .start 1000000 200 .none ∧
      ticks 22 200 (2 ^ 32 - 100000) 1000000 .start 400000 111 .start := by decide

/-- 95_test_vectors.md part 2.6: the stop ramp and the transition, rounded toward zero. -/
theorem test_rtick_falling :
    ticks 180 0 0 500000 .stop 1 180 .stop ∧ ticks 180 0 0 500000 .stop 100000 144 .stop ∧
      ticks 180 0 0 500000 .stop 499999 1 .stop ∧ ticks 180 0 0 500000 .stop 500000 0 .none ∧
      ticks 100 50 0 800000 .transition 400000 75 .transition := by decide

/-- A DIRUPD: the latched direction, CW and CCW after it. -/
def directs (gate inv : Bool) (cur : Nat) (dirIn dl dv dl' dv' cw ccw : Bool) : Bool :=
  after
    (exec .dirupd
      { inPhase { Config.ex1 with DIR_GATE := gate, DIR_INVERT := inv } .dirupd with
        cur := cur, env := { Env.silent with dir := { level0 := dirIn, edges := [] } }, dir_latched := dl, dir_valid := dv })
    (fun t => t.dir_latched == dl' && t.dir_valid == dv' && t.CW == cw && t.CCW == ccw && t.phase == 0x4#4)

/-- 95_test_vectors.md part 2.7. -/
theorem test_dirupd_vectors :
    directs true false 0 true false false true true false true ∧
      directs true false 0 false false false false true true false ∧
      directs true false 50 false true true true true false true ∧ directs true true 0 false false true true true false true ∧
      directs true true 0 true true true false true true false ∧ directs false false 50 false true true false true true false ∧
      directs true false 50 true false false false false false false := by decide

/-- DIR_IN is its level at the cycle time, an edge at that very time included (R100, R210). -/
theorem test_dirupd_samples_at_cycle_time :
    after
      (exec .dirupd
        { inPhase .ex1 .dirupd with
          env := { Env.silent with dir := { level0 := false, edges := [700] } }, tau := 700, t_c := 700 })
      (fun t => t.dir_latched && t.dir_valid) := by decide

/-- An OUTWR under these calibration bounds. -/
def drives (lower upper : Nat) (zero : Bool) (cur out : Nat) : Bool :=
  after
    (exec .outwr
      { inPhase { Config.ex1 with CAL_ENABLE := true, CAL_LOWER := lower, CAL_UPPER := upper, CAL_ZERO_PASSTHROUGH := zero }
          .outwr with
        cur := cur })
    (fun t => t.pwm_out == out && t.phase == 0x2#4)

/-- 95_test_vectors.md part 2.8, the calibrated rows. -/
theorem test_outwr_calibrated :
    drives 40 230 true 0 0 ∧ drives 40 230 false 0 40 ∧ drives 40 230 true 1 40 ∧ drives 40 230 true 2 41 ∧
      drives 40 230 true 127 134 ∧ drives 40 230 true 128 135 ∧ drives 40 230 true 254 229 ∧ drives 40 230 true 255 230 ∧
      drives 0 255 true 127 127 ∧ drives 100 100 true 0 0 ∧ drives 100 100 true 1 100 := by decide

/-- 95_test_vectors.md part 2.8: without calibration the duty itself. -/
theorem test_outwr_uncalibrated : after (exec .outwr { inPhase .ex1 .outwr with cur := 128 }) (fun t => t.pwm_out == 128) := by
  decide

/-- 95_test_vectors.md part 2.9: RESET at τ_reset = 5000, from a busy state. -/
theorem test_reset :
    after
      (exec .reset
        { inPhase .ex1 .zrun with
          smp_value := 9, smp_valid := true, avg_sum := 9, avg_count := 9, cur := 90, tgt := 9, start_duty := 9
          kind := .stop, duration := 9, dir_latched := true, dir_valid := true, pwm_out := 90, zr_count := 6
          tgt_value := 9, resetTimes := [5000] })
      (fun t => t.smp_value == 0 && !t.smp_valid && t.t_c == 5000 && t.start_time == 5000 && t.avg_sum == 0 && t.avg_count == 0 &&
        t.tgt_value == 0 && t.zr_count == -3 && t.cur == 0 && t.tgt == 0 && t.start_duty == 0 && t.duration == 0 &&
        t.kind == .none && !t.dir_valid && t.pwm_out == 0 && !t.CW && !t.CCW && t.phase == 0x1#4) := by decide

/-- 95_test_vectors.md part 2.8: CALHOOK changes the phase alone. -/
theorem test_calhook : after (exec .calhook { State.reset with cur := 5, dir_valid := true })
    (fun t => decide (t = { State.reset with cur := 5, dir_valid := true, phase := 0x2#4 })) := by decide

/-! ### The step: streams (95_test_vectors.md part 2.1), and the fetch word -/

theorem test_step_out_of_order : refusedFor (step { inPhase .ex1 .measure with stream := [3#4] }) .outOfOrder := by decide
theorem test_step_reserved : refusedFor (step { inPhase .ex1 .measure with stream := [0xA#4] }) .reservedOpcode := by decide
theorem test_step_reset_in_any_phase : after (step { inPhase .ex1 .zrun with stream := [0#4, 1#4] })
    (fun t => t.phase == 0x1#4 && t.stream == [1#4]) := by decide
theorem test_step_bad_config :
    refusedFor (step { State.reset with cfg := { Config.ex1 with DETERMINE_FREQ := 2000 } }) .badConfig := by decide
theorem test_withFetchWord : after (step (State.reset.withFetchWord 8 0x9)) (fun t => t.phase == 0x2#4) := by decide

/-! ### Witnesses: for each obligation with hypotheses, a concrete state and operands that meet them; where it has several
clauses, one for each, at the boundary of its range. -/

theorem witness_DecodeAndEncodeAgree : Instr.wf .outwr = true ∧ decode 0b1001#4 = some .outwr := by decide

theorem witness_StepRunsDecodedInstruction :
    let s := inPhase .ex1 .zrun
    Instr.wf .zrun = true ∧ (s.stream = [] ∧ decode s.phase = some .zrun) ∧
      (let u := { s with stream := [4#4, 6#4] }
       u.stream = 4#4 :: [6#4] ∧ decode 4#4 = some .zrun ∧ (4#4 = u.phase ∨ Instr.zrun = .reset)) ∧
      (let u := { s with stream := [0#4] }
       u.stream = 0#4 :: [] ∧ decode 0#4 = some .reset ∧ (0#4 = u.phase ∨ Instr.reset = .reset)) := by decide

/-- A next word of each sort: an ill-formed configuration, reserved at both ends of the range, a reserved phase without a
stream, out of order, in order, and RESET. -/
theorem witness_StepRefusesInThreeCases :
    let s := inPhase .ex1 .measure
    let c := { Config.ex1 with DETERMINE_FREQ := 1001 }
    s.cfg.wf = true ∧ { s with cfg := c }.cfg.wf = false ∧
      (0xA#4 = { s with stream := [0xA#4] }.stream.headD s.phase ∧ decodeWord 0xA#4 = .reserved) ∧
      (0xF#4 = { s with phase := 0xF#4 }.stream.headD 0xF#4 ∧ decodeWord 0xF#4 = .reserved) ∧
      (decodeWord 0x9#4 ≠ .reserved ∧ 0x9#4 ≠ s.phase ∧ 0x9#4 ≠ 0x0#4) ∧
      (0x2#4 = s.stream.headD s.phase ∧ decodeWord 0x2#4 ≠ .reserved ∧ 0x2#4 = s.phase) ∧
      decodeWord 0x0#4 ≠ .reserved := by decide

/-- A sampling rate one above the PWM frequency, under the whole premise. -/
theorem witness_IllFormedConfigurationIsRefused :
    let c := { Config.ex1 with DETERMINE_FREQ := 1001 }
    ¬(1 ≤ c.RESOLUTION ∧ 1 ≤ c.PWM_FREQUENCY ∧ (1 ≤ c.DETERMINE_FREQ ∧ c.DETERMINE_FREQ ≤ c.PWM_FREQUENCY) ∧
        (1 ≤ c.CYCLES_PARSED ∧ 1 ≤ c.CYCLES_PARSED * 1000000 / c.PWM_FREQUENCY) ∧ c.LOW_JUMP_LIMIT ≤ c.RESOLUTION ∧
        c.ZERO_RUN_BASELINE ≤ -1 ∧ 1 ≤ c.OUT_MAX ∧
        (c.CAL_ENABLE = true → c.CAL_LOWER ≤ c.CAL_UPPER ∧ c.CAL_UPPER ≤ c.OUT_MAX) ∧ 2 ≤ c.TIME_WIDTH ∧
        c.SOFT_START_TIME * 1000 < 2 ^ (c.TIME_WIDTH - 1) ∧ c.SOFT_STOP_TIME * 1000 < 2 ^ (c.TIME_WIDTH - 1) ∧
        c.SOFT_TRANSITION_TIME * 1000 < 2 ^ (c.TIME_WIDTH - 1) ∧
        c.CYCLES_PARSED * 1000000 / c.PWM_FREQUENCY < 2 ^ (c.TIME_WIDTH - 1)) := by decide

theorem witness_EveryOperationCompletes : State.reset.cfg.wf = true ∧ Instr.rtick ≠ .reset := by decide

theorem witness_PhaseTransitions :
    let s := inPhase .ex1 .zrun
    s.cfg.wf = true ∧ s.force_pending = false ∧ s.tgt_pending = false := by decide

theorem witness_ResetWritesEveryRegister :
    let s := { inPhase .ex1 .rtick with resetTimes := [5000] }
    s.cfg.wf = true ∧ s.resetTimes = 5000 :: [] := by decide

theorem witness_ResetWithoutGivenTimeKeepsTime : State.reset.cfg.wf = true ∧ State.reset.resetTimes = [] := by decide

theorem witness_ResetEstablishesInvariant :
    State.reset.cfg.wf = true ∧ zeroDrivesZero State.reset.cfg := by decide

theorem witness_CalhookOnlyMovesPhase : State.reset.cfg.wf = true := by decide

/-- A line that falls silent and one that toggles for ever, each at an edge and beside it. -/
theorem witness_LevelTogglesExactlyAtEdges :
    let w : Waveform := { level0 := false, edges := [200, 700] }
    let r : Waveform := { level0 := false, edges := [], tail := .repeating [100, 885] 1000 }
    (w.wf = true ∧ w.hasEdge (199 + 1) = true ∧ w.hasEdge (200 + 1) = false ∧ w.nextEdge 699 = some 700 ∧
        w.nextEdge 700 = none) ∧
      r.wf = true ∧ r.hasEdge (7884 + 1) = true ∧ r.hasEdge (7885 + 1) = false ∧ r.nextEdge 7885 = some 8100 := by decide

/-- EX1 on a line with this level at 0 and these edges, at time 0. -/
def onLine (level0 : Bool) (edges : List Nat) : State :=
  { inPhase .ex1 .measure with env := { Env.silent with pwm := { level0 := level0, edges := edges } } }

/-- A first pulse, a pulse after the one in progress (M2), and one that ends exactly at the deadline (M6). -/
theorem witness_MeasureTakesTheQualifyingPulse :
    Config.ex1.wf = true ∧ QualifyingPair .ex1 (onLine false [200, 700]).env.pwm 0 200 700 ∧
      QualifyingPair .ex1 (onLine true [300, 1000, 1400]).env.pwm 0 1000 1400 ∧
      QualifyingPair .ex1 (onLine false [2500, 3000]).env.pwm 0 2500 3000 :=
  ⟨by decide, qualifyingPair_eq_some.1 (by decide), qualifyingPair_eq_some.1 (by decide), qualifyingPair_eq_some.1 (by decide)⟩

/-- No edge, and a rise exactly at the deadline (M7). -/
theorem witness_MeasureTimesOutAtTheDeadline :
    Config.ex1.wf = true ∧ (∀ τr τf, ¬QualifyingPair .ex1 (onLine false []).env.pwm 0 τr τf) ∧
      ∀ τr τf, ¬QualifyingPair .ex1 (onLine false [3000, 3100]).env.pwm 0 τr τf :=
  ⟨by decide, qualifyingPair_eq_none.1 (by decide), qualifyingPair_eq_none.1 (by decide)⟩

theorem witness_MeasuredPulseIsOneWholeActivePulse :
    (onLine true [300, 1000, 1400]).env.pwm.wf = true ∧
      QualifyingPair .ex1 (onLine true [300, 1000, 1400]).env.pwm 0 1000 1400 :=
  ⟨by decide, qualifyingPair_eq_some.1 (by decide)⟩

/-- The first edge one microsecond after the deadline, on a line held at either level. -/
theorem witness_SteadyLineReadsZero :
    (∀ level0, (onLine level0 [3001]).cfg.wf = true) ∧
      ∀ level0 e, (onLine level0 [3001]).env.pwm.hasEdge e = true → (onLine level0 [3001]).tau < e →
        (onLine level0 [3001]).tau + (onLine level0 [3001]).cfg.TIMEOUT_US < e := by
  refine ⟨by decide, fun level0 e he => ?_⟩
  obtain rfl : e = 3001 := List.mem_singleton.1 ((hasEdge_of_silent rfl e).1 he)
  cases level0 <;> decide

/-- Widths 3, the widest that reads 0 under EX1, and 1000, the period. -/
theorem witness_PulseWidthExtremes :
    Config.ex1.wf = true ∧
      (QualifyingPair .ex1 (onLine false [100, 103]).env.pwm 0 100 103 ∧
        (103 - 100) * Config.ex1.RESOLUTION * Config.ex1.PWM_FREQUENCY < 1000000) ∧
      QualifyingPair .ex1 (onLine false [100, 1100]).env.pwm 0 100 1100 ∧
        1000000 ≤ (1100 - 100) * Config.ex1.PWM_FREQUENCY :=
  ⟨by decide, ⟨qualifyingPair_eq_some.1 (by decide), by decide⟩, qualifyingPair_eq_some.1 (by decide), by decide⟩

theorem witness_MeasureEndsInsideItsWindow : (onLine false []).cfg.wf = true := by decide

theorem witness_OnlyMeasureTakesTime : Instr.rtick ≠ .measure ∧ Instr.rtick ≠ .reset ∧
    ∃ t, exec .rtick (inPhase .ex1 .rtick) = .next t := ⟨by decide, by decide, _, rfl⟩

/-- Two lines that agree up to the deadline and differ after it. -/
theorem witness_MeasureSeesOnlyItsWindow :
    let s := onLine false [200, 700]
    let s' := onLine false [200, 700, 3001]
    s.cfg.wf = true ∧ s'.cfg = s.cfg ∧ s'.tau = s.tau ∧ s'.env.pwm.level s.tau = s.env.pwm.level s.tau ∧
      ∀ e, s.tau < e → e ≤ s.tau + s.cfg.TIMEOUT_US → s'.env.pwm.hasEdge e = s.env.pwm.hasEdge e := by
  refine ⟨by decide, rfl, rfl, by decide, fun e _ he => ?_⟩
  have hD : (onLine false [200, 700]).tau + (onLine false [200, 700]).cfg.TIMEOUT_US = 3000 := by decide
  rw [hD] at he
  rw [Bool.eq_iff_iff, hasEdge_of_silent rfl, hasEdge_of_silent rfl]
  simp only [onLine, List.mem_cons, List.not_mem_nil, or_false]
  omega

/-- A valid and an invalid sample; the last sample of a window and the one before. -/
theorem witness_AccumFillsAndEmitsWindow :
    let s := { inPhase .ex2 .accum with smp_value := 200, smp_valid := true, avg_sum := 400, avg_count := 2 }
    let u := { inPhase .ex2 .accum with smp_value := 200, smp_valid := false, avg_sum := 600, avg_count := 3 }
    (s.cfg.wf = true ∧ (s.smp_valid = true → 200 = s.smp_value) ∧ (s.smp_valid = false → 200 = 0) ∧
        s.avg_count + 1 ≠ s.cfg.PWM_FREQUENCY / s.cfg.DETERMINE_FREQ) ∧
      u.cfg.wf = true ∧ (u.smp_valid = true → 0 = u.smp_value) ∧ (u.smp_valid = false → 0 = 0) ∧
        u.avg_count + 1 = u.cfg.PWM_FREQUENCY / u.cfg.DETERMINE_FREQ := by decide

theorem witness_WindowEmitsFloorMean :
    let s := inPhase .ex2 .accum
    s.cfg.wf = true ∧ s.avg_count = 0 ∧ s.avg_sum = 0 ∧ s.tgt_pending = false ∧
      [(10, true), (11, true), (11, true), (11, false)].length = s.cfg.W ∧ 3 < s.cfg.W := by decide

/-- EX2 before a ZRUN with this sample and this counter. -/
def beforeZrun (value : Nat) (valid : Bool) (zr : Int) : State :=
  { inPhase .ex2 .zrun with smp_value := value, smp_valid := valid, zr_count := zr }

/-- A nonzero sample, and a zero at the counts N - 1, N and N + 1. -/
theorem witness_ZrunCountsAndFires :
    Config.ex2.wf = true ∧
      (((beforeZrun 1 true 2).smp_valid = true → 1 = (beforeZrun 1 true 2).smp_value) ∧
        ((beforeZrun 1 true 2).smp_valid = false → 1 = 0) ∧ (1 : Nat) ≠ 0) ∧
      (((beforeZrun 7 false 0).smp_valid = true → 0 = (beforeZrun 7 false 0).smp_value) ∧
        ((beforeZrun 7 false 0).smp_valid = false → 0 = 0)) ∧
      (beforeZrun 7 false 0).zr_count < (beforeZrun 7 false 0).cfg.ZERO_RUN_THRESHOLD ∧
      (beforeZrun 7 false 1).zr_count = (beforeZrun 7 false 1).cfg.ZERO_RUN_THRESHOLD ∧
      (beforeZrun 7 false 2).cfg.ZERO_RUN_THRESHOLD < (beforeZrun 7 false 2).zr_count := by decide

theorem witness_ZerosNeededToFire :
    let s := beforeZrun 0 false (-1)
    s.cfg.wf = true ∧ s.zr_count = s.cfg.ZERO_RUN_BASELINE ∧ s.effectiveSample = 0 := by decide

theorem witness_Force0ClearsRampAndWindow : (inPhase .ex1 .force0).cfg.wf = true := by decide

theorem witness_ForceWinsOverClosingWindow :
    let s := { beforeZrun 0 false 1 with avg_count := 3 }
    BlockInv s ∧ s.stream = [] ∧ s.phase = encode .zrun ∧ s.effectiveSample = 0 ∧
      s.zr_count = s.cfg.ZERO_RUN_THRESHOLD ∧ s.avg_count + 1 = s.cfg.W ∧ zeroDrivesZero s.cfg := by decide

/-- EX1 before a RETARGET from this duty to this mean. -/
def beforeRetarget (cur mean : Nat) : State :=
  { inPhase .ex1 .retarget with cur := cur, tgt := cur, tgt_value := mean, tgt_pending := true }

/-- A change of exactly IGNORE_RANGE. -/
theorem witness_RetargetWithinIgnoreRange :
    let s := beforeRetarget 2 0
    s.cfg.wf = true ∧ 0 = min s.tgt_value s.cfg.RESOLUTION ∧ (((0 : Nat) : Int) - s.cur).natAbs ≤ s.cfg.IGNORE_RANGE := by
  decide

/-- A start to LOW_JUMP_LIMIT, and to one step above it. -/
theorem witness_RetargetStartSpecialCase :
    let s := beforeRetarget 0 22
    let u := beforeRetarget 0 23
    (s.cfg.wf = true ∧ 22 = min s.tgt_value s.cfg.RESOLUTION ∧ s.cur = 0 ∧ s.cfg.IGNORE_RANGE < 22 ∧
        22 ≤ s.cfg.LOW_JUMP_LIMIT) ∧
      23 = min u.tgt_value u.cfg.RESOLUTION ∧ u.cur = 0 ∧ u.cfg.IGNORE_RANGE < 23 ∧ u.cfg.LOW_JUMP_LIMIT < 23 ∧
        0 < u.cfg.SOFT_START_TIME := by decide

/-- T4, T8 and T12: one step past the ignore range or past LOW_JUMP_LIMIT. -/
theorem witness_RetargetClassifiesTheChange :
    let s := beforeRetarget 0 23
    let u := beforeRetarget 3 0
    let v := beforeRetarget 100 103
    Config.ex1.wf = true ∧
      (23 = min s.tgt_value s.cfg.RESOLUTION ∧ s.cfg.IGNORE_RANGE < (((23 : Nat) : Int) - s.cur).natAbs ∧ s.cur = 0 ∧
        s.cfg.LOW_JUMP_LIMIT < 23 ∧ 0 < s.cfg.SOFT_START_TIME) ∧
      (0 = min u.tgt_value u.cfg.RESOLUTION ∧ u.cfg.IGNORE_RANGE < (((0 : Nat) : Int) - u.cur).natAbs ∧ u.cur ≠ 0 ∧
        0 < u.cfg.SOFT_STOP_TIME) ∧
      103 = min v.tgt_value v.cfg.RESOLUTION ∧ v.cfg.IGNORE_RANGE < (((103 : Nat) : Int) - v.cur).natAbs ∧ v.cur ≠ 0 ∧
        (103 : Nat) ≠ 0 ∧ 0 < v.cfg.SOFT_TRANSITION_TIME := by decide

/-- EX1 with no ramp times. -/
def noRampTimes : Config := { Config.ex1 with SOFT_START_TIME := 0, SOFT_STOP_TIME := 0, SOFT_TRANSITION_TIME := 0 }

theorem witness_RetargetZeroLengthRamp :
    let s := { beforeRetarget 0 23 with cfg := noRampTimes }
    let u := { beforeRetarget 3 0 with cfg := noRampTimes }
    let v := { beforeRetarget 100 103 with cfg := noRampTimes }
    noRampTimes.wf = true ∧
      (23 = min s.tgt_value s.cfg.RESOLUTION ∧ s.cfg.IGNORE_RANGE < (((23 : Nat) : Int) - s.cur).natAbs ∧
        s.cur = 0 ∧ s.cfg.LOW_JUMP_LIMIT < 23 ∧ s.cfg.SOFT_START_TIME = 0) ∧
      (0 = min u.tgt_value u.cfg.RESOLUTION ∧ u.cfg.IGNORE_RANGE < (((0 : Nat) : Int) - u.cur).natAbs ∧
        u.cur ≠ 0 ∧ u.cfg.SOFT_STOP_TIME = 0) ∧
      103 = min v.tgt_value v.cfg.RESOLUTION ∧ v.cfg.IGNORE_RANGE < (((103 : Nat) : Int) - v.cur).natAbs ∧
        v.cur ≠ 0 ∧ (103 : Nat) ≠ 0 ∧ v.cfg.SOFT_TRANSITION_TIME = 0 := by decide

/-- An idle block and one in the middle of a stop ramp, at the same duty. -/
theorem witness_RetargetForgetsTheOldRamp :
    let s := beforeRetarget 100 50
    let s' := { beforeRetarget 100 50 with tgt := 0, start_duty := 180, start_time := 7, duration := 500000, kind := .stop }
    s.cfg.wf = true ∧ s'.cfg = s.cfg ∧ s'.cur = s.cur ∧ s'.tgt_value = s.tgt_value ∧ s'.t_c = s.t_c := by decide

/-- EX1 before an RTICK of a ramp of 1000 microseconds that started at time 0. -/
def beforeTick (sd tgt : Nat) (kind : Kind) (now : Nat) : State :=
  { inPhase .ex1 .rtick with
    cur := sd, start_duty := sd, tgt := tgt, duration := 1000, kind := kind, tau := now, t_c := now }

/-- No ramp; a ramp exactly at its end; a rising and a falling one the microsecond before. -/
theorem witness_RtickAdvancesTheRamp :
    let r := beforeTick 22 22 .none 0
    let s := beforeTick 22 200 .start 1000
    let u := beforeTick 22 200 .start 999
    let v := beforeTick 180 0 .stop 999
    Config.ex1.wf = true ∧
      (((0 : Nat) : Int) = ((r.t_c : Int) - r.start_time) % (2 ^ r.cfg.TIME_WIDTH : Nat) ∧ r.kind = .none) ∧
      (((1000 : Nat) : Int) = ((s.t_c : Int) - s.start_time) % (2 ^ s.cfg.TIME_WIDTH : Nat) ∧ s.kind ≠ .none ∧
        s.duration ≤ 1000) ∧
      (((999 : Nat) : Int) = ((u.t_c : Int) - u.start_time) % (2 ^ u.cfg.TIME_WIDTH : Nat) ∧ u.kind ≠ .none ∧
        999 < u.duration ∧ u.start_duty ≤ u.tgt) ∧
      ((999 : Nat) : Int) = ((v.t_c : Int) - v.start_time) % (2 ^ v.cfg.TIME_WIDTH : Nat) ∧ v.kind ≠ .none ∧
        999 < v.duration ∧ v.tgt < v.start_duty := by decide

/-- A rising and a falling ramp, ticked the microsecond before their end and at it. -/
theorem witness_RampIsMonotoneAndExact :
    let s := beforeTick 22 200 .start 0
    let u := beforeTick 180 0 .stop 0
    (s.cfg.wf = true ∧ s.kind ≠ .none ∧ 0 < s.duration ∧ 999 < 2 ^ s.cfg.TIME_WIDTH ∧ 1000 < 2 ^ s.cfg.TIME_WIDTH ∧
        modSub 999 s.start_time s.cfg.TIME_WIDTH ≤ modSub 1000 s.start_time s.cfg.TIME_WIDTH ∧ s.start_duty ≤ s.tgt ∧
        s.duration ≤ modSub 1000 s.start_time s.cfg.TIME_WIDTH) ∧
      u.kind ≠ .none ∧ 0 < u.duration ∧
        modSub 999 u.start_time u.cfg.TIME_WIDTH ≤ modSub 1000 u.start_time u.cfg.TIME_WIDTH ∧ u.tgt ≤ u.start_duty ∧
        u.duration ≤ modSub 1000 u.start_time u.cfg.TIME_WIDTH := by decide

/-- 95_test_vectors.md program 4, cycle 2: a transition that ends across the wrap of NOW; and the cycle before, where it does
not end. -/
theorem witness_RampTimingSurvivesWrap :
    let r := { inPhase .ex2 .rtick with
      cur := 198, tgt := 200, start_duty := 100, start_time := 4294959296, duration := 8000, kind := .transition }
    let s := { r with tau := 4294968185, t_c := 889 }
    let u := { r with tau := 4294967185, t_c := 4294967185 }
    (s.cfg.wf = true ∧ TimeInv s ∧ s.kind ≠ .none ∧ 0 < s.duration ∧ s.start_time = nowAt s.cfg 4294959296 ∧
        4294959296 ≤ s.tau ∧ s.tau - 4294959296 < 2 ^ s.cfg.TIME_WIDTH ∧ s.duration ≤ s.tau - 4294959296) ∧
      TimeInv u ∧ 4294959296 ≤ u.tau ∧ u.tau - 4294959296 < u.duration := by decide

theorem witness_IgnoreRangeReachedInOneTick :
    let s := beforeRetarget 100 102
    s.cfg.wf = true ∧ 102 = min s.tgt_value s.cfg.RESOLUTION ∧
      (((102 : Nat) : Int) - s.cur).natAbs ≤ s.cfg.IGNORE_RANGE := by decide

theorem witness_NewRampIsTickedAtElapsedZero : (beforeRetarget 0 200).cfg.wf = true := by decide

/-- The gate open by configuration and by duty, and closed at the smallest nonzero duty. -/
theorem witness_DirupdLatchesWhenGateOpen :
    let r := { inPhase { Config.ex1 with DIR_GATE := false } .dirupd with cur := 1 }
    let s := inPhase .ex1 .dirupd
    let u := { inPhase .ex1 .dirupd with cur := 1 }
    (r.cfg.wf = true ∧ (r.cfg.DIR_GATE = false ∨ r.cur = 0)) ∧ (s.cfg.wf = true ∧ (s.cfg.DIR_GATE = false ∨ s.cur = 0)) ∧
      u.cfg.wf = true ∧ u.cfg.DIR_GATE = true ∧ u.cur ≠ 0 := by decide

theorem witness_DirectionOutputsExclude :
    let s := { State.reset with dir_valid := true }
    s.dir_valid = true ∧ State.reset.dir_valid = false ∧ (s.CW = true ∧ s.dir_latched = s.cfg.CW_EFF_LEVEL) := by decide

/-- A direction change through DIRUPD at duty 0, and one through RESET under a duty. -/
theorem witness_DirectionChangesOnlyAtZeroOutput :
    let s := inPhase .ex1 .dirupd
    let u := { inPhase .ex1 .measure with cur := 9, tgt := 9, pwm_out := 9, dir_valid := true, stream := [0#4] }
    (s.cfg.DIR_GATE = true ∧ zeroDrivesZero s.cfg ∧ DrivenInv s ∧ ∃ t, step s = .next t ∧ (t.CW ≠ s.CW ∨ t.CCW ≠ s.CCW)) ∧
      u.cfg.DIR_GATE = true ∧ zeroDrivesZero u.cfg ∧ DrivenInv u ∧ ∃ t, step u = .next t ∧ (t.CW ≠ u.CW ∨ t.CCW ≠ u.CCW) :=
  ⟨⟨by decide, by decide, by decide, _, rfl, by decide⟩, by decide, by decide, by decide, _, rfl, by decide⟩

/-- No calibration, a passed-through zero, a duty, and a zero that is not passed through. -/
theorem witness_OutwrDrivesTheDuty :
    let c := { Config.ex1 with CAL_ENABLE := true, CAL_LOWER := 40, CAL_UPPER := 230 }
    let s := inPhase c .outwr
    let u := { inPhase c .outwr with cur := 1 }
    let v := inPhase { c with CAL_ZERO_PASSTHROUGH := false } .outwr
    (Config.ex1.wf = true ∧ Config.ex1.CAL_ENABLE = false) ∧
      (s.cfg.wf = true ∧ s.cfg.CAL_ENABLE = true ∧ s.cur = 0 ∧ s.cfg.CAL_ZERO_PASSTHROUGH = true) ∧
      (u.cfg.wf = true ∧ u.cfg.CAL_ENABLE = true ∧ (u.cur ≠ 0 ∨ u.cfg.CAL_ZERO_PASSTHROUGH = false)) ∧
      v.cfg.wf = true ∧ v.cfg.CAL_ENABLE = true ∧ (v.cur ≠ 0 ∨ v.cfg.CAL_ZERO_PASSTHROUGH = false) := by decide

theorem witness_CalibrationMapIsMonotone :
    let c := { Config.ex1 with CAL_ENABLE := true, CAL_LOWER := 40, CAL_UPPER := 230 }
    c.wf = true ∧ c.CAL_ENABLE = true ∧ c.RESOLUTION ≤ c.RESOLUTION ∧ 1 ≤ 1 ∧ 1 ≤ c.RESOLUTION := by decide

/-- Each operation of R34's table doing what the table has it do. -/
theorem witness_FlagsHaveOneSetterAndOneClearer :
    after (exec .measure (onLine false [200, 700])) (fun t => t.smp_valid != (onLine false [200, 700]).smp_valid) ∧
      after (exec .accum { inPhase .ex2 .accum with avg_count := 3 }) (fun t => t.tgt_pending) ∧
      after (exec .retarget (beforeRetarget 0 9)) (fun t => !t.tgt_pending) ∧
      after (exec .zrun (beforeZrun 0 false 1)) (fun t => t.force_pending) ∧
      after (exec .force0 { inPhase .ex1 .force0 with force_pending := true }) (fun t => !t.force_pending) ∧
      after (exec .dirupd (inPhase .ex1 .dirupd)) (fun t => t.dir_valid) ∧
      after (exec .rtick { inPhase .ex1 .rtick with dir_valid := true }) (fun t => t.dir_valid) := by decide

theorem witness_OutputsChangeOnlyInTheirDriver :
    after (exec .outwr { inPhase .ex1 .outwr with cur := 1 }) (fun t => t.pwmOutPort != 0) ∧
      after (exec .dirupd (inPhase .ex1 .dirupd)) (fun t => t.CW != (inPhase .ex1 .dirupd).CW) := by decide

theorem witness_EveryStepKeepsInvariant : BlockInv State.reset ∧ ∃ t, step State.reset = .next t := ⟨by decide, _, rfl⟩

theorem witness_RegistersFitTheirWidths : BlockInv (beforeRetarget 255 255) := by decide

theorem witness_TheBlockNeverStops : BlockInv State.reset ∧ State.reset.stream = [] := by decide

theorem witness_ControlCycleIsOneOfThreeStrings :
    let s := onLine false [200, 700]
    s.cfg.wf = true ∧ s.stream = [] ∧ s.phase = encode .measure := by decide

theorem witness_OutputStaysZeroUntilRetarget :
    let s := inPhase .ex1 .accum
    zeroDrivesZero s.cfg ∧ s.cur = 0 ∧ s.kind = .none ∧ s.pwm_out = 0 ∧ (∃ t, step s = .next t) ∧
      decode (nextWord s) ≠ some .retarget :=
  ⟨by decide, by decide, by decide, by decide, ⟨_, rfl⟩, by decide⟩

/-- 95_test_vectors.md program 2's start, with the counter and the edges left open. -/
def losing (zr : Int) (edges : List Nat) : State :=
  { inPhase .ex2 .measure with
    env := { Env.silent with pwm := { level0 := false, edges := edges } }
    tau := 10000, t_c := 10000, smp_value := 100, smp_valid := true, zr_count := zr, cur := 100, tgt := 100
    start_duty := 100, start_time := 5000, dir_valid := true, pwm_out := 100 }

/-- From the baseline on a line with no edge, and from N on a line whose last edge is this very moment. -/
theorem witness_SignalLossForcesOutputToZero :
    let s := losing (-1) []
    let u := losing 1 [9000, 10000]
    (BlockInv s ∧ s.stream = [] ∧ s.phase = encode .measure ∧ zeroDrivesZero s.cfg ∧
        (∀ e, s.env.pwm.hasEdge e = true → e ≤ s.tau) ∧ s.zr_count ≤ s.cfg.ZERO_RUN_THRESHOLD) ∧
      BlockInv u ∧ u.stream = [] ∧ u.phase = encode .measure ∧ zeroDrivesZero u.cfg ∧
        (∀ e, u.env.pwm.hasEdge e = true → e ≤ u.tau) ∧ u.zr_count ≤ u.cfg.ZERO_RUN_THRESHOLD :=
  have silent : ∀ zr edges, (∀ e ∈ edges, e ≤ 10000) → ∀ e, (losing zr edges).env.pwm.hasEdge e = true → e ≤ 10000 :=
    fun _ _ h e he => h e ((hasEdge_of_silent rfl e).1 he)
  ⟨⟨by decide, by decide, by decide, by decide, silent _ _ (by decide), by decide⟩, by decide, by decide, by decide, by decide,
    silent _ _ (by decide), by decide⟩

end Sys2Proof.Tests
end

section
/-! PROOFS. Scope (00_scope.md): the refusal of a configuration that is not well formed. -/

namespace Sys2Proof

/-- R8's list of clauses, the one on the largest of the four times written as a bound on each of them. -/
def Config.MeetsR8 (c : Config) : Prop :=
  1 ≤ c.RESOLUTION ∧ 1 ≤ c.PWM_FREQUENCY ∧ (1 ≤ c.DETERMINE_FREQ ∧ c.DETERMINE_FREQ ≤ c.PWM_FREQUENCY) ∧
    (1 ≤ c.CYCLES_PARSED ∧ 1 ≤ c.TIMEOUT_US) ∧ c.LOW_JUMP_LIMIT ≤ c.RESOLUTION ∧ c.ZERO_RUN_BASELINE ≤ -1 ∧
    1 ≤ c.OUT_MAX ∧ (c.CAL_ENABLE = true → c.CAL_LOWER ≤ c.CAL_UPPER ∧ c.CAL_UPPER ≤ c.OUT_MAX) ∧
    2 ≤ c.TIME_WIDTH ∧ c.START_US < 2 ^ (c.TIME_WIDTH - 1) ∧ c.STOP_US < 2 ^ (c.TIME_WIDTH - 1) ∧
    c.TRANS_US < 2 ^ (c.TIME_WIDTH - 1) ∧ c.TIMEOUT_US < 2 ^ (c.TIME_WIDTH - 1)

theorem Config.longestTime_lt_iff {c : Config} {bound : Nat} : max c.maxRampUs c.TIMEOUT_US < bound ↔
    c.START_US < bound ∧ c.STOP_US < bound ∧ c.TRANS_US < bound ∧ c.TIMEOUT_US < bound := by
  simp only [maxRampUs, max_lt_iff, and_assoc]

/-- The configuration check is R8's list with the clause that the model adds to it (assumption 4). -/
theorem Config.wf_iff_meetsR8 (c : Config) :
    c.wf = true ↔ c.MeetsR8 ∧ (c.CAL_ENABLE = false → c.RESOLUTION ≤ c.OUT_MAX) := by
  simp only [wf_iff, longestTime_lt_iff, MeetsR8, and_assoc]

theorem Config.wf_eq_false_of_not_meetsR8 {c : Config} (h : ¬c.MeetsR8) : c.wf = false :=
  Bool.eq_false_iff.2 fun hw => h (c.wf_iff_meetsR8.1 hw).1

end Sys2Proof

namespace Sys2Proof.Machine

theorem exec_of_not_wf {s : State} (i : Instr) (h : s.cfg.wf = false) : exec i s = .refused .badConfig := by
  rw [exec_eq, configured_of_not_wf h]

/-- Settles O9: a failing clause of R8 fails the configuration check, which every operation and every step makes first. -/
theorem illFormedConfigurationIsRefused : Obligations.IllFormedConfigurationIsRefused := by
  intro i s hfails
  have hw : s.cfg.wf = false := Config.wf_eq_false_of_not_meetsR8 hfails
  exact ⟨exec_of_not_wf i hw, step_of_not_wf hw⟩

end Sys2Proof.Machine
end

section
/-! PROOFS. State (10_state.md): the codes of the ramp kind (R29) and the reset values (R37). -/

namespace Sys2Proof.Machine

@[simp] theorem kindOfCode_code (k : Kind) : kindOfCode k.code = k := by cases k <;> rfl

/-- Settles O6: the codes are the definition's own, and reading one back is `kindOfCode_code`. -/
theorem kindCodes : Obligations.KindCodes := ⟨rfl, rfl, rfl, rfl, kindOfCode_code⟩

/-- While no direction is defined, CW is deasserted (R30). -/
theorem State.CW_of_dir_invalid {s : State} (h : s.dir_valid = false) : s.CW = false := by simp [State.CW, h]

/-- While no direction is defined, CCW is deasserted (R30). -/
theorem State.CCW_of_dir_invalid {s : State} (h : s.dir_valid = false) : s.CCW = false := by simp [State.CCW, h]

/-- Settles O14: each register by its value in `State.reset`, the image of time 0 by `Nat.zero_mod`, and the direction ports
from `dir_valid` being 0. -/
theorem resetStateValues : Obligations.ResetStateValues := by
  have hdir : State.reset.dir_valid = false := rfl
  have htime : State.reset.t_c = State.reset.tau % 2 ^ State.reset.cfg.TIME_WIDTH := (Nat.zero_mod _).symm
  have hcw : State.reset.CW = false := State.CW_of_dir_invalid hdir
  have hccw : State.reset.CCW = false := State.CCW_of_dir_invalid hdir
  exact ⟨rfl, rfl, htime, rfl, rfl, rfl, rfl, rfl, rfl, rfl, rfl, rfl, rfl, rfl, rfl, rfl, hdir, hcw, hccw, rfl, rfl⟩

end Sys2Proof.Machine
end

section
/-! PROOFS. Encoding (30_encoding.md): the opcode map (R81) and the reserved words (R83, R85). -/

namespace Sys2Proof.Machine

/-- The decoder has one arm for each code below 0xA and one for the rest (R83). -/
theorem decodeWord_eq_reserved_iff (w : OpWord) : decodeWord w = .reserved ↔ 0xA ≤ w.toNat := by
  unfold decodeWord
  split
  case h_11 =>
    -- none of the ten codes matched, so the word's number is not below 0xA
    simp only [true_iff]
    grind
  all_goals simp [*]

theorem decodeWord_ne_reserved_iff (w : OpWord) : decodeWord w ≠ .reserved ↔ ∃ i, decodeWord w = .op i := by
  cases decodeWord w <;> simp

@[simp] theorem decode_encode (i : Instr) : decode (encode i) = some i := by
  simp only [decode, decode_encode_word]

theorem decode_of_reserved {w : OpWord} (h : decodeWord w = .reserved) : decode w = none := by
  simp only [decode, h]

/-- Settles O3: the decoder's last arm is the reserved range, and a word that is not reserved names an operation. -/
theorem reservedWordsAreNamed : Obligations.ReservedWordsAreNamed := by
  intro w
  have hreserved := decodeWord_eq_reserved_iff w
  refine ⟨hreserved, ?_⟩
  rw [← decodeWord_ne_reserved_iff, Ne, hreserved, not_le]

/-- Settles O1: the ten words, as written out, are the operations' encodings, and a word from 0xA on is reserved. -/
theorem writtenWordsDecode : Obligations.WrittenWordsDecode :=
  ⟨decode_encode .reset, decode_encode .calhook, decode_encode .measure, decode_encode .dirupd, decode_encode .zrun,
    decode_encode .force0, decode_encode .accum, decode_encode .retarget, decode_encode .rtick, decode_encode .outwr,
    fun w hw => decode_of_reserved ((decodeWord_eq_reserved_iff w).2 hw)⟩

end Sys2Proof.Machine
end

section
/-! PROOFS. Sampler (40_sampler.md): the waveform's level and next edge (R100), and what MEASURE leaves (R103, R104). -/

namespace Sys2Proof.Machine

/-- A line toggles at an edge (R100). -/
theorem level_succ_of_edge {w : Waveform} {τ : Nat} (hw : w.wf = true) (he : w.hasEdge (τ + 1) = true) :
    w.level (τ + 1) = !w.level τ := by
  rw [level_succ hw, he, Bool.xor_true]

/-- A line holds its level where it has no edge (R100). -/
theorem level_succ_of_no_edge {w : Waveform} {τ : Nat} (hw : w.wf = true) (he : w.hasEdge (τ + 1) = false) :
    w.level (τ + 1) = w.level τ := by
  rw [level_succ hw, he, Bool.xor_false]

/-- Settles O17: `level_succ` says how the level goes on from one microsecond to the next, and the list `nextEdge` searches
holds the least edge after τ whenever there is one. -/
theorem levelTogglesExactlyAtEdges : Obligations.LevelTogglesExactlyAtEdges := by
  intro w hw
  exact ⟨level_zero hw, fun _ => ⟨level_succ_of_edge hw, level_succ_of_no_edge hw⟩, fun _ _ => nextEdge_eq_some,
    fun _ => nextEdge_eq_none⟩

/-- MEASURE where its search finds a pair (R103, R105). -/
theorem effect_measure_of_pair {s : State} {τr τf : Nat} (h : QualifyingPair s.cfg s.env.pwm s.tau τr τf) :
    effect .measure s = ((s.setSample (dutyOfWidth s.cfg (τf - τr)) true).setTime τf).setPhase .dirupd := by
  simp only [effect, measureEffect, qualifyingPair_eq_some.2 h]

/-- MEASURE where its search finds none (R104). -/
theorem effect_measure_of_no_pair {s : State} (h : ∀ τr τf, ¬QualifyingPair s.cfg s.env.pwm s.tau τr τf) :
    effect .measure s = ((s.setSample 0 false).setTime (s.tau + s.cfg.TIMEOUT_US)).setPhase .dirupd := by
  simp only [effect, measureEffect, qualifyingPair_eq_none.2 h]

/-- Settles O18: the search finds the qualifying pair, and its width's duty is the formula of R103 with only the upper bound
of the clamp left. -/
theorem measureTakesTheQualifyingPulse : Obligations.MeasureTakesTheQualifyingPulse := by
  intro s τr τf hw hpair
  rw [exec_of_wf .measure hw, effect_measure_of_pair hpair, dutyOfWidth_eq]
  rfl

/-- Settles O19: where no pair qualifies the search finds none, and the deadline is TIMEOUT_US written out. -/
theorem measureTimesOutAtTheDeadline : Obligations.MeasureTimesOutAtTheDeadline := by
  intro s hw hnone
  rw [exec_of_wf .measure hw, effect_measure_of_no_pair hnone]
  rfl

end Sys2Proof.Machine
end

section
/-! PROOFS. Running Averager (41_averager.md): what ACCUM leaves while the window fills and when it closes (R130). -/

namespace Sys2Proof.Machine

/-- The sample's value as R130 and R150 read it, from the two cases of its validity. -/
theorem State.effectiveSample_eq {s : State} {v : Nat} (hvalid : s.smp_valid = true → v = s.smp_value)
    (hinvalid : s.smp_valid = false → v = 0) : s.effectiveSample = v := by
  cases h : s.smp_valid with
  | true => simp [effectiveSample, h, hvalid h]
  | false => simp [effectiveSample, h, hinvalid h]

theorem windowCloses_iff {c : Config} {count : Nat} : windowCloses c count = true ↔ count + 1 = c.W :=
  decide_eq_true_iff

/-- ACCUM before the last sample of a window (R130). -/
theorem effect_accum_of_filling {s : State} (h : s.avg_count + 1 ≠ s.cfg.W) : effect .accum s =
    (s.setWindow (s.avg_sum + s.effectiveSample) (s.avg_count + 1)).setPhase .rtick :=
  if_neg (mt windowCloses_iff.1 h)

/-- ACCUM with the last sample of a window (R130). -/
theorem effect_accum_of_full {s : State} (h : s.avg_count + 1 = s.cfg.W) : effect .accum s =
    ((s.latchEmission ((s.avg_sum + s.effectiveSample) / s.cfg.W)).setWindow 0 0).setPhase .retarget :=
  if_pos (windowCloses_iff.2 h)

/-- Settles O26: ACCUM by whether this sample closes the window, with v as the sample it reads. -/
theorem accumFillsAndEmitsWindow : Obligations.AccumFillsAndEmitsWindow := by
  intro s v hw hvalid hinvalid
  have hv : s.effectiveSample = v := State.effectiveSample_eq hvalid hinvalid
  rw [exec_of_wf .accum hw]
  constructor
  · intro hfilling
    rw [effect_accum_of_filling hfilling, hv]
    rfl
  · intro hfull
    rw [effect_accum_of_full hfull, hv]
    rfl

end Sys2Proof.Machine
end

section
/-! PROOFS. Zero-Run Detector (42_zero_run.md): the counter and the event of ZRUN (R150), and what FORCE0 leaves (R151). -/

namespace Sys2Proof.Machine

/-- The event is a zero sample on a counter at N; the definition's bound `zr ≤ N` follows from `zr + 1 = N + 1`. -/
theorem zeroForceFires_iff {c : Config} {v : Nat} {zr : Int} :
    zeroForceFires c v zr = true ↔ v = 0 ∧ zr = c.ZERO_RUN_THRESHOLD := by
  simp only [zeroForceFires, Bool.and_eq_true, decide_eq_true_eq]
  omega

theorem zeroCountNext_of_nonzero {c : Config} {v : Nat} {zr : Int} (hv : v ≠ 0) :
    zeroCountNext c v zr = c.ZERO_RUN_BASELINE :=
  if_neg hv

theorem zeroCountNext_of_le {c : Config} {zr : Int} (h : zr ≤ c.ZERO_RUN_THRESHOLD) : zeroCountNext c 0 zr = zr + 1 :=
  if_pos h

theorem zeroCountNext_of_saturated {c : Config} {zr : Int} (h : c.ZERO_RUN_THRESHOLD < zr) : zeroCountNext c 0 zr = zr :=
  if_neg (not_le.2 h)

/-- ZRUN with the firing zero (R150). -/
theorem effect_zrun_of_fires {s : State} (hv : s.effectiveSample = 0) (hz : s.zr_count = s.cfg.ZERO_RUN_THRESHOLD) :
    effect .zrun s = ((s.setZeroCount (s.zr_count + 1)).setForce true).setPhase .force0 := by
  have hnext : zeroCountNext s.cfg s.effectiveSample s.zr_count = s.zr_count + 1 := hv ▸ zeroCountNext_of_le hz.le
  simp only [effect, zrunEffect, if_pos (zeroForceFires_iff.2 ⟨hv, hz⟩), hnext]

/-- ZRUN with any other sample (R150). -/
theorem effect_zrun_of_not_fires {s : State} (h : ¬(s.effectiveSample = 0 ∧ s.zr_count = s.cfg.ZERO_RUN_THRESHOLD)) :
    effect .zrun s = (s.setZeroCount (zeroCountNext s.cfg s.effectiveSample s.zr_count)).setPhase .accum :=
  if_neg (mt zeroForceFires_iff.1 h)

/-- Settles O28: ZRUN by the sample and by the counter's place against N; only a zero at N fires. -/
theorem zrunCountsAndFires : Obligations.ZrunCountsAndFires := by
  intro s v hw hvalid hinvalid
  have hv : s.effectiveSample = v := State.effectiveSample_eq hvalid hinvalid
  rw [exec_of_wf .zrun hw]
  refine ⟨fun hne => ?nonzero, fun h0 hlt => ?below, fun h0 heq => ?firing, fun h0 hgt => ?saturated⟩
  case nonzero =>
    rw [effect_zrun_of_not_fires (fun h => hne (hv ▸ h.1)), hv, zeroCountNext_of_nonzero hne]
    rfl
  case below =>
    rw [effect_zrun_of_not_fires (fun h => hlt.ne h.2), hv, h0, zeroCountNext_of_le hlt.le]
    rfl
  case firing =>
    rw [effect_zrun_of_fires (hv.trans h0) heq]
    rfl
  case saturated =>
    rw [effect_zrun_of_not_fires (fun h => hgt.ne' h.2), hv, h0, zeroCountNext_of_saturated hgt]
    rfl

/-- FORCE0 jumps the ramp to 0 at the cycle's time and empties the window and the latch (R151). -/
theorem effect_force0_eq (s : State) : effect .force0 s =
    (((s.setRamp 0 s.t_c (jumpTo 0)).setWindow 0 0).setForce false).setPhase .rtick := rfl

/-- Settles O30: the effect of FORCE0, each of its updates written out. -/
theorem force0ClearsRampAndWindow : Obligations.Force0ClearsRampAndWindow := by
  intro s hw
  rw [exec_of_wf .force0 hw, effect_force0_eq]
  rfl

end Sys2Proof.Machine
end

section
/-! PROOFS. Ramp Generator (43_ramp.md): the branches of the decision sequence of RETARGET (R171 to R174), and what RTICK
leaves (R176, R177). -/

namespace Sys2Proof.Machine

/-- The ignore range comes before every other test (R171). -/
theorem classify_of_within_ignore_range {c : Config} {C T : Nat} (h : absDiff T C ≤ c.IGNORE_RANGE) :
    classify c C T = jumpTo T :=
  if_pos h

theorem classify_of_low_start {c : Config} {C T : Nat} (h : c.IGNORE_RANGE < absDiff T C) (hC : C = 0)
    (hT : T ≤ c.LOW_JUMP_LIMIT) : classify c C T = jumpTo T := by
  rw [classify, if_neg (not_le.2 h), if_pos hC, if_pos hT]

theorem classify_of_high_start {c : Config} {C T : Nat} (h : c.IGNORE_RANGE < absDiff T C) (hC : C = 0)
    (hT : c.LOW_JUMP_LIMIT < T) : classify c C T = rampFrom c.LOW_JUMP_LIMIT c.START_US .start := by
  rw [classify, if_neg (not_le.2 h), if_pos hC, if_neg (not_le.2 hT)]

theorem classify_of_stop {c : Config} {C T : Nat} (h : c.IGNORE_RANGE < absDiff T C) (hC : C ≠ 0) (hT : T = 0) :
    classify c C T = rampFrom C c.STOP_US .stop := by
  rw [classify, if_neg (not_le.2 h), if_neg hC, if_pos hT]

theorem classify_of_transition {c : Config} {C T : Nat} (h : c.IGNORE_RANGE < absDiff T C) (hC : C ≠ 0) (hT : T ≠ 0) :
    classify c C T = rampFrom C c.TRANS_US .transition := by
  rw [classify, if_neg (not_le.2 h), if_neg hC, if_neg hT]

theorem completeZeroLength_jumpTo (T : Nat) : completeZeroLength T (jumpTo T) = jumpTo T := ite_self _

theorem completeZeroLength_rampFrom_of_pos (T a : Nat) {d : Nat} (k : Kind) (hd : 0 < d) :
    completeZeroLength T (rampFrom a d k) = rampFrom a d k :=
  if_neg fun h => hd.ne' h.2

theorem completeZeroLength_rampFrom_of_zero (T a : Nat) {d : Nat} {k : Kind} (hk : k ≠ .none) (hd : d = 0) :
    completeZeroLength T (rampFrom a d k) = jumpTo T :=
  if_pos ⟨hk, hd⟩

/-- RETARGET with the setup `r` that the decision sequence arrives at for the clamped mean `T` (R170). -/
theorem exec_retarget_of_setup {s : State} {T : Nat} {r : RampSetup} (hw : s.cfg.wf = true)
    (hT : T = min s.tgt_value s.cfg.RESOLUTION) (hr : completeZeroLength T (classify s.cfg s.cur T) = r) :
    exec .retarget s = .next ((s.clearEmission.setRamp T s.t_c r).setPhase .rtick) := by
  have hnew : newTarget s = T := (newTarget_eq s).trans hT.symm
  rw [exec_of_wf .retarget hw, effect, retargetEffect, rampSetup, hnew, hr]

/-- RETARGET where no ramp is needed drives the target at once. -/
theorem exec_retarget_of_jump {s : State} {T : Nat} (hw : s.cfg.wf = true)
    (hT : T = min s.tgt_value s.cfg.RESOLUTION) (hjump : classify s.cfg s.cur T = jumpTo T) :
    exec .retarget s = .next ((s.clearEmission.setRamp T s.t_c (jumpTo T)).setPhase .rtick) :=
  exec_retarget_of_setup hw hT (by rw [hjump, completeZeroLength_jumpTo])

/-- RETARGET where a ramp of a configured time of `ms` milliseconds, not 0, is needed sets it up. -/
theorem exec_retarget_of_ramp {s : State} {T a ms : Nat} {k : Kind} (hw : s.cfg.wf = true)
    (hT : T = min s.tgt_value s.cfg.RESOLUTION) (hramp : classify s.cfg s.cur T = rampFrom a (ms * 1000) k)
    (hms : 0 < ms) :
    exec .retarget s = .next ((s.clearEmission.setRamp T s.t_c (rampFrom a (ms * 1000) k)).setPhase .rtick) :=
  have hd : 0 < ms * 1000 := Nat.mul_pos hms (by decide)
  exec_retarget_of_setup hw hT (by rw [hramp, completeZeroLength_rampFrom_of_pos T a k hd])

/-- RETARGET where the ramp's configured time is 0 drives the target at once (R174). -/
theorem exec_retarget_of_zero_ramp {s : State} {T a ms : Nat} {k : Kind} (hw : s.cfg.wf = true)
    (hT : T = min s.tgt_value s.cfg.RESOLUTION) (hramp : classify s.cfg s.cur T = rampFrom a (ms * 1000) k)
    (hk : k ≠ .none) (hms : ms = 0) :
    exec .retarget s = .next ((s.clearEmission.setRamp T s.t_c (jumpTo T)).setPhase .rtick) :=
  have hd : ms * 1000 = 0 := mul_eq_zero_of_left hms 1000
  exec_retarget_of_setup hw hT (by rw [hramp, completeZeroLength_rampFrom_of_zero T a hk hd])

/-- Settles O32: the decision sequence's first test makes the change a jump. -/
theorem retargetWithinIgnoreRange : Obligations.RetargetWithinIgnoreRange := by
  intro s T hw hT hwithin
  exact exec_retarget_of_jump hw hT (classify_of_within_ignore_range hwithin)

/-- Settles O33: a start is a jump up to LOW_JUMP_LIMIT and a ramp from it above. -/
theorem retargetStartSpecialCase : Obligations.RetargetStartSpecialCase := by
  intro s T hw hT hcur hout
  have hdiff : s.cfg.IGNORE_RANGE < absDiff T s.cur := by simpa [absDiff_eq, hcur] using hout
  constructor
  · intro hlow
    exact exec_retarget_of_jump hw hT (classify_of_low_start hdiff hcur hlow)
  · intro hhigh htime
    exact exec_retarget_of_ramp hw hT (classify_of_high_start hdiff hcur hhigh) htime

/-- Settles O34: the branch of the decision sequence for each of the three kinds, whose ramp has some length. -/
theorem retargetClassifiesTheChange : Obligations.RetargetClassifiesTheChange := by
  intro s T hw hT hout
  refine ⟨fun hcur hhigh htime => ?start, fun hcur h0 htime => ?stop, fun hcur h0 htime => ?transition⟩
  case start =>
    exact ⟨_, exec_retarget_of_ramp hw hT (classify_of_high_start hout hcur hhigh) htime, rfl, rfl⟩
  case stop =>
    subst h0
    exact exec_retarget_of_ramp hw hT (classify_of_stop hout hcur rfl) htime
  case transition =>
    exact exec_retarget_of_ramp hw hT (classify_of_transition hout hcur h0) htime

/-- Settles O35: the same three branches with a ramp of no length, which completes as a jump. -/
theorem retargetZeroLengthRamp : Obligations.RetargetZeroLengthRamp := by
  intro s T hw hT hout hzero
  rcases hzero with ⟨hcur, hhigh, htime⟩ | ⟨hcur, h0, htime⟩ | ⟨hcur, h0, htime⟩
  · exact exec_retarget_of_zero_ramp hw hT (classify_of_high_start hout hcur hhigh) (by decide) htime
  · exact exec_retarget_of_zero_ramp hw hT (classify_of_stop hout hcur h0) (by decide) htime
  · exact exec_retarget_of_zero_ramp hw hT (classify_of_transition hout hcur h0) (by decide) htime

theorem elapsed_eq_of_cast {s : State} {e : Nat}
    (he : (e : Int) = ((s.t_c : Int) - s.start_time) % (2 ^ s.cfg.TIME_WIDTH : Nat)) : elapsed s = e := by
  rw [elapsed, modSub, ← he, Int.toNat_natCast]

/-- The tick at which a ramp's time is over puts the duty at the target (R176). -/
theorem effect_rtick_of_complete {s : State} (hk : s.kind ≠ .none) (h : s.duration ≤ elapsed s) :
    effect .rtick s = ((s.setCur s.tgt).setKind .none).setPhase .outwr := by
  rw [effect, rtickEffect, if_neg hk, if_pos h]

/-- A tick before that interpolates (R176, R177). -/
theorem effect_rtick_of_running {s : State} (hk : s.kind ≠ .none) (h : elapsed s < s.duration) :
    effect .rtick s = (s.setCur (lerp s.start_duty s.tgt (elapsed s) s.duration)).setPhase .outwr := by
  rw [effect, rtickEffect, if_neg hk, if_neg (not_le.2 h)]

/-- Settles O37: RTICK by the kind and the elapsed time; `lerp_rising` and `lerp_falling` are the rounding of R177 in either
direction. -/
theorem rtickAdvancesTheRamp : Obligations.RtickAdvancesTheRamp := by
  intro s e hw he
  obtain rfl : elapsed s = e := elapsed_eq_of_cast he
  rw [exec_of_wf .rtick hw]
  refine ⟨fun hk => ?idle, fun hk hover => ?complete, fun hk hrun hup => ?rising, fun hk hrun hdown => ?falling⟩
  case idle =>
    rw [effect_rtick_idle hk]
    rfl
  case complete =>
    rw [effect_rtick_of_complete hk hover]
    rfl
  case rising =>
    rw [effect_rtick_of_running hk hrun, lerp_rising _ _ hup]
    rfl
  case falling =>
    rw [effect_rtick_of_running hk hrun, lerp_falling hdown.le hrun.le]
    rfl

end Sys2Proof.Machine
end

section
/-! PROOFS. Direction Controller (44_direction.md): what DIRUPD leaves with the duty gate open and closed (R210, R213). -/

namespace Sys2Proof.Machine

theorem gateOpen_iff {c : Config} {cur : Nat} : gateOpen c cur = true ↔ c.DIR_GATE = false ∨ cur = 0 := by
  simp [gateOpen]

/-- DIRUPD with the gate open latches the effective direction (R210). -/
theorem effect_dirupd_of_open {s : State} (h : s.cfg.DIR_GATE = false ∨ s.cur = 0) :
    effect .dirupd s = (s.latchDirection (effectiveDirection s)).setPhase .zrun :=
  if_pos (gateOpen_iff.2 h)

/-- DIRUPD with the gate closed holds the latched direction (R213). -/
theorem effect_dirupd_of_closed {s : State} (hgate : s.cfg.DIR_GATE = true) (hcur : s.cur ≠ 0) :
    effect .dirupd s = s.setPhase .zrun :=
  have hclosed : ¬(s.cfg.DIR_GATE = false ∨ s.cur = 0) := by simp [hgate, hcur]
  if_neg (mt gateOpen_iff.1 hclosed)

/-- Settles O42: DIRUPD by whether the duty gate is open, each of its updates written out. -/
theorem dirupdLatchesWhenGateOpen : Obligations.DirupdLatchesWhenGateOpen := by
  intro s hw
  rw [exec_of_wf .dirupd hw]
  constructor
  · intro hopen
    rw [effect_dirupd_of_open hopen]
    rfl
  · intro hgate hcur
    rw [effect_dirupd_of_closed hgate hcur]
    rfl

end Sys2Proof.Machine
end

section
/-! PROOFS. Output Driver (45_output.md): what CALHOOK leaves (R233), the clauses of the driven value (R230, R231), and what
OUTWR leaves. -/

namespace Sys2Proof.Machine

/-- CALHOOK moves the phase on (R233). -/
theorem effect_calhook_eq (s : State) : effect .calhook s = s.setPhase .measure := rfl

/-- Settles O16: the effect of CALHOOK, its one update written out. -/
theorem calhookOnlyMovesPhase : Obligations.CalhookOnlyMovesPhase := by
  intro s hw
  rw [exec_of_wf .calhook hw, effect_calhook_eq]
  rfl

theorem calmap_of_passthrough {c : Config} {d : Nat} (hd : d = 0) (hz : c.CAL_ZERO_PASSTHROUGH = true) : calmap c d = 0 :=
  if_pos ⟨hd, hz⟩

theorem calmap_of_linear {c : Config} {d : Nat} (h : d ≠ 0 ∨ c.CAL_ZERO_PASSTHROUGH = false) :
    calmap c d = c.CAL_LOWER + d * (c.CAL_UPPER - c.CAL_LOWER) / c.RESOLUTION :=
  if_neg fun ⟨hd, hz⟩ => h.elim (absurd hd) (Bool.eq_false_iff.1 · hz)

theorem outputValue_of_uncalibrated {c : Config} (d : Nat) (h : c.CAL_ENABLE = false) : outputValue c d = d := by
  simp [outputValue, h]

/-- R232 allows the table read to be the map, computed on the fly (assumption 8). -/
theorem outputValue_of_calibrated {c : Config} (d : Nat) (h : c.CAL_ENABLE = true) : outputValue c d = calmap c d :=
  if_pos h

/-- OUTWR writes the driven value and begins the next cycle (R230). -/
theorem effect_outwr_eq (s : State) :
    effect .outwr s = (s.setOutput (outputValue s.cfg s.cur)).setPhase .measure := rfl

/-- Settles O45: OUTWR by the clause of the driven value, each of its updates written out. -/
theorem outwrDrivesTheDuty : Obligations.OutwrDrivesTheDuty := by
  intro s hw
  rw [exec_of_wf .outwr hw, effect_outwr_eq]
  refine ⟨fun huncal => ?uncalibrated, fun hcal hcur hzero => ?passthrough, fun hcal hlinear => ?linear⟩
  case uncalibrated =>
    rw [outputValue_of_uncalibrated _ huncal]
    rfl
  case passthrough =>
    rw [outputValue_of_calibrated _ hcal, calmap_of_passthrough hcur hzero]
    rfl
  case linear =>
    rw [outputValue_of_calibrated _ hcal, calmap_of_linear hlinear]
    rfl

end Sys2Proof.Machine
end

section
/-! PROOFS. Sequencer (46_sequencer.md): the phase table (R251), and what RESET leaves at the environment's time (R250). -/

namespace Sys2Proof.Machine

/-- ZRUN moves to FORCE0 exactly when it leaves the zero-force latch full, if the latch was empty before (R251). -/
theorem effect_zrun_phase_eq_phaseAfter {s : State} (h : s.force_pending = false) :
    (effect .zrun s).phase = phaseAfter .zrun (effect .zrun s) := by
  by_cases hfires : s.effectiveSample = 0 ∧ s.zr_count = s.cfg.ZERO_RUN_THRESHOLD
  · obtain ⟨hzero, hcount⟩ := hfires
    rw [effect_zrun_of_fires hzero hcount]
    rfl
  · rw [effect_zrun_of_not_fires hfires]
    simp [phaseAfter, h]

/-- ACCUM moves to RETARGET exactly when it leaves the emission latch full, if the latch was empty before (R251). -/
theorem effect_accum_phase_eq_phaseAfter {s : State} (h : s.tgt_pending = false) :
    (effect .accum s).phase = phaseAfter .accum (effect .accum s) := by
  by_cases hfull : s.avg_count + 1 = s.cfg.W
  · rw [effect_accum_of_full hfull]
    rfl
  · rw [effect_accum_of_filling hfull]
    simp [phaseAfter, h]

/-- Settles O11: eight operations have one next phase each; ZRUN and ACCUM choose theirs by the latch, empty before them. -/
theorem phaseTransitions : Obligations.PhaseTransitions := by
  intro i s hw hforce hemission
  refine ⟨effect i s, exec_of_wf i hw, ?_⟩
  cases i with
  | reset => exact effect_reset_phase s
  | calhook => exact effect_calhook_phase s
  | measure => exact effect_measure_phase s
  | dirupd => exact effect_dirupd_phase s
  | zrun => exact effect_zrun_phase_eq_phaseAfter (hforce rfl)
  | force0 => exact effect_force0_phase s
  | accum => exact effect_accum_phase_eq_phaseAfter (hemission rfl)
  | retarget => exact effect_retarget_phase s
  | rtick => exact effect_rtick_phase s
  | outwr => exact effect_outwr_phase s

theorem State.resetTime_of_given {s : State} {τ : Nat} {later : List Nat} (h : s.resetTimes = τ :: later) :
    s.resetTime = τ := by
  rw [State.resetTime, h, List.headD_cons]

theorem State.popResetTime_of_given {s : State} {τ : Nat} {later : List Nat} (h : s.resetTimes = τ :: later) :
    s.popResetTime = { s with resetTimes := later } := by
  rw [State.popResetTime, h, List.tail_cons]

/-- RESET at a time that the environment gives (R250): the reset values at that time, which is consumed. -/
theorem effect_reset_of_given {s : State} {τ : Nat} {later : List Nat} (h : s.resetTimes = τ :: later) :
    effect .reset s = { resetAt s τ with resetTimes := later } := by
  rw [effect, resetEffect, State.resetTime_of_given h]
  exact State.popResetTime_of_given h

/-- Settles O12: the effect of RESET at the given time, each register's reset value written out. -/
theorem resetWritesEveryRegister : Obligations.ResetWritesEveryRegister := by
  intro s τ later hw hgiven
  rw [exec_of_wf .reset hw, effect_reset_of_given hgiven]
  rfl

end Sys2Proof.Machine
end

section
/-! PROOFS. State (10_state.md): the direction outputs exclude each other in every state (R30, 44_direction.md R214). -/

namespace Sys2Proof.Machine

theorem State.CW_eq_true_iff (s : State) : s.CW = true ↔ s.dir_valid = true ∧ s.dir_latched = s.cfg.CW_EFF_LEVEL := by
  simp [State.CW]

theorem State.CCW_eq_true_iff (s : State) : s.CCW = true ↔ s.dir_valid = true ∧ s.dir_latched ≠ s.cfg.CW_EFF_LEVEL := by
  simp [State.CCW]

theorem directionInv (s : State) : DirectionInv s := by
  rw [DirectionInv, s.CW_eq_true_iff, s.CCW_eq_true_iff]
  rintro ⟨⟨-, hcw⟩, -, hccw⟩
  exact hccw hcw

/-- With a direction defined, the latched level is CW's or the other one (R30). -/
theorem State.CCW_eq_not_CW {s : State} (h : s.dir_valid = true) : s.CCW = !s.CW := by
  simp [State.CW, State.CCW, h, bne]

/-- Settles O43: each output is one of the two comparisons of the latched level with CW_EFF_LEVEL. -/
theorem directionOutputsExclude : Obligations.DirectionOutputsExclude := by
  intro s
  refine ⟨directionInv s, fun hvalid => ?_, fun hinvalid => ?_, s.CW_eq_true_iff⟩
  · rw [State.CCW_eq_not_CW hvalid, Bool.xor_not_self]
  · exact ⟨State.CW_of_dir_invalid hinvalid, State.CCW_of_dir_invalid hinvalid⟩

/-- CW and CCW are read from the direction registers and the configuration alone (R30). -/
theorem directionPorts_congr {s t : State} (hl : t.dir_latched = s.dir_latched) (hv : t.dir_valid = s.dir_valid)
    (hc : t.cfg = s.cfg) : t.CW = s.CW ∧ t.CCW = s.CCW := by
  simp only [State.CW, State.CCW, hl, hv, hc, and_self]

end Sys2Proof.Machine
end

section
/-! PROOFS. Frames of the operations (10_state.md R26, R34, 46_sequencer.md R250) beside those of Laws/Effects.lean, and the
words of the phase register. -/

namespace Sys2Proof.Machine

/-- Only ZRUN, FORCE0 and RESET write the zero-force latch (R34). -/
theorem effect_force_pending {i : Instr} {s : State} (hz : i ≠ .zrun) (hf : i ≠ .force0) (hr : i ≠ .reset) :
    (effect i s).force_pending = s.force_pending := by
  cases i <;> simp only [effect]
  case reset => exact absurd rfl hr
  case calhook => rfl
  case measure => unfold measureEffect; split <;> rfl
  case dirupd => unfold dirupdEffect; split <;> rfl
  case zrun => exact absurd rfl hz
  case force0 => exact absurd rfl hf
  case accum => unfold accumEffect; split <;> rfl
  case retarget => rfl
  case rtick => unfold rtickEffect; split <;> [rfl; (split <;> rfl)]
  case outwr => rfl

/-- Only RESET takes a reset time (assumption 5). -/
theorem effect_resetTimes {i : Instr} {s : State} (hr : i ≠ .reset) : (effect i s).resetTimes = s.resetTimes := by
  cases i <;> simp only [effect]
  case reset => exact absurd rfl hr
  case calhook => rfl
  case measure => unfold measureEffect; split <;> rfl
  case dirupd => unfold dirupdEffect; split <;> rfl
  case zrun => unfold zrunEffect; split <;> rfl
  case force0 => rfl
  case accum => unfold accumEffect; split <;> rfl
  case retarget => rfl
  case rtick => unfold rtickEffect; split <;> [rfl; (split <;> rfl)]
  case outwr => rfl

theorem encode_injective : Function.Injective encode := fun i j h =>
  Option.some.inj ((decode_encode i).symm.trans (h ▸ decode_encode j))

theorem encode_toNat_le (i : Instr) : (encode i).toNat ≤ 9 := by cases i <;> decide

/-- A word up to 9 is an operation's (R85). -/
theorem exists_encode_of_toNat_le {w : OpWord} (h : w.toNat ≤ 9) : ∃ i, w = encode i := by
  have hlegal : decodeWord w ≠ .reserved := by
    rw [Ne, decodeWord_eq_reserved_iff]
    omega
  obtain ⟨i, hi⟩ := (decodeWord_ne_reserved_iff w).1 hlegal
  exact ⟨i, (encode_of_decodeWord hi).symm⟩

/-- Every operation leaves the phase at some operation's word (R251). -/
theorem effect_phase_eq_encode (i : Instr) (s : State) : ∃ j, (effect i s).phase = encode j := by
  cases i
  case reset => exact ⟨_, effect_reset_phase s⟩
  case calhook => exact ⟨_, effect_calhook_phase s⟩
  case measure => exact ⟨_, effect_measure_phase s⟩
  case dirupd => exact ⟨_, effect_dirupd_phase s⟩
  case zrun => rw [effect_zrun_phase]; split <;> exact ⟨_, rfl⟩
  case force0 => exact ⟨_, effect_force0_phase s⟩
  case accum => rw [effect_accum_phase]; split <;> exact ⟨_, rfl⟩
  case retarget => exact ⟨_, effect_retarget_phase s⟩
  case rtick => exact ⟨_, effect_rtick_phase s⟩
  case outwr => exact ⟨_, effect_outwr_phase s⟩

end Sys2Proof.Machine
end

section
/-! PROOFS. The invariant (10_state.md R35): each sub-block's part is kept by every operation but RESET, RESET establishes the
whole from any state, and so every step keeps it and the block runs on. -/

namespace Sys2Proof.Machine

theorem nowAt_lt_timeModulus (c : Config) (τ : Nat) : nowAt c τ < c.timeModulus := Nat.mod_lt τ c.timeModulus_pos

theorem t_c_lt_timeModulus {s : State} (h : TimeInv s) : s.t_c < s.cfg.timeModulus := h ▸ nowAt_lt_timeModulus s.cfg s.tau

/-- RESET drives 0 and leaves no direction defined (R37). -/
theorem effect_reset_outputs (s : State) : (effect .reset s).pwm_out = 0 ∧ (effect .reset s).dir_valid = false :=
  ⟨rfl, rfl⟩

/-- RESET establishes the invariant under a well-formed configuration, whatever the registers were. -/
theorem blockInv_effect_reset {s : State} (hw : s.cfg.wf = true) : BlockInv (effect .reset s) := by
  have hbase : s.cfg.ZERO_RUN_BASELINE ≤ (s.cfg.ZERO_RUN_THRESHOLD : Int) + 1 := by
    have := Config.baseline_neg hw
    omega
  have htime := nowAt_lt_timeModulus s.cfg s.resetTime
  have hramp : RampInv (effect .reset s) :=
    ⟨Nat.zero_le _, Nat.zero_le _, Nat.zero_le _, htime, Nat.zero_le _, fun h => absurd rfl h, fun _ => rfl,
      fun h => absurd rfl h⟩
  have hseq : SequencerInv (effect .reset s) := ⟨encode_toNat_le .calhook, nofun, nofun⟩
  exact ⟨hw, rfl, ⟨Nat.zero_le _, fun _ => rfl⟩, ⟨Config.window_pos hw, Nat.zero_le _, Nat.zero_le _⟩,
    ⟨le_rfl, hbase⟩, hramp, directionInv _, Nat.zero_le _, hseq⟩

section
variable {s : State} {i : Instr}

theorem effect_timeInv (h : TimeInv s) (hr : i ≠ .reset) : TimeInv (effect i s) := by
  by_cases hm : i = .measure
  · subst hm
    rcases measureEffect_cases s with ⟨τr, τf, -, he⟩ | ⟨-, he⟩ <;> rw [effect, he] <;> rfl
  · obtain ⟨htau, htc⟩ := effect_time (s := s) hm hr
    rw [TimeInv, htc, htau, effect_cfg]
    exact h

theorem effect_samplerInv (h : SamplerInv s) (hr : i ≠ .reset) : SamplerInv (effect i s) := by
  by_cases hm : i = .measure
  · subst hm
    rcases measureEffect_cases s with ⟨τr, τf, -, he⟩ | ⟨-, he⟩ <;> rw [effect, he]
    · exact ⟨dutyOfWidth_le _ _, nofun⟩
    · exact ⟨Nat.zero_le _, fun _ => rfl⟩
  · obtain ⟨hvalue, hvalid⟩ := effect_sample (s := s) hm hr
    rw [SamplerInv, hvalue, hvalid, effect_cfg]
    exact h

theorem effectiveSample_le_resolution (h : SamplerInv s) : s.effectiveSample ≤ s.cfg.RESOLUTION := by
  unfold State.effectiveSample
  split
  · exact h.1
  · exact Nat.zero_le _

/-- The sum of a window with this sample is at most the full scale of its count (R35, R130). -/
theorem avg_sum_add_sample_le (hsample : SamplerInv s) (havg : AveragerInv s) :
    s.avg_sum + s.effectiveSample ≤ (s.avg_count + 1) * s.cfg.RESOLUTION := by
  rw [Nat.add_mul, Nat.one_mul]
  exact Nat.add_le_add havg.2.1 (effectiveSample_le_resolution hsample)

theorem effect_accum_averagerInv (hw : s.cfg.wf = true) (hsample : SamplerInv s) (h : AveragerInv s) :
    AveragerInv (effect .accum s) := by
  have hsum := avg_sum_add_sample_le hsample h
  obtain ⟨hcount, -, htgt⟩ := h
  by_cases hfull : s.avg_count + 1 = s.cfg.W
  · rw [effect_accum_of_full hfull]
    exact ⟨Config.window_pos hw, Nat.zero_le _, Nat.div_le_of_le_mul (hfull ▸ hsum)⟩
  · rw [effect_accum_of_filling hfull]
    exact ⟨Nat.lt_of_le_of_ne hcount hfull, hsum, htgt⟩

theorem effect_averagerInv (hw : s.cfg.wf = true) (hsample : SamplerInv s) (h : AveragerInv s) (hr : i ≠ .reset) :
    AveragerInv (effect i s) := by
  by_cases ha : i = .accum
  · exact ha ▸ effect_accum_averagerInv hw hsample h
  by_cases hf : i = .force0
  · subst hf
    exact ⟨Config.window_pos hw, Nat.zero_le _, h.2.2⟩
  by_cases ht : i = .retarget
  · exact ht ▸ h
  · obtain ⟨hsum, hcount⟩ := effect_window (s := s) ha hf hr
    obtain ⟨-, htgt⟩ := effect_emission (s := s) ha ht hr
    rw [AveragerInv, hsum, hcount, htgt, effect_cfg]
    exact h

theorem zeroCountNext_mem_range {c : Config} {zr : Int} (v : Nat) (hw : c.wf = true) (hlo : c.ZERO_RUN_BASELINE ≤ zr)
    (hhi : zr ≤ (c.ZERO_RUN_THRESHOLD : Int) + 1) :
    c.ZERO_RUN_BASELINE ≤ zeroCountNext c v zr ∧ zeroCountNext c v zr ≤ (c.ZERO_RUN_THRESHOLD : Int) + 1 := by
  have hneg := Config.baseline_neg hw
  unfold zeroCountNext
  split <;> [split; skip] <;> omega

theorem effect_zeroRunInv (hw : s.cfg.wf = true) (h : ZeroRunInv s) (hr : i ≠ .reset) : ZeroRunInv (effect i s) := by
  obtain ⟨hlo, hhi⟩ := h
  by_cases hz : i = .zrun
  · subst hz
    rw [ZeroRunInv, effect_zrun_zr_count, effect_cfg]
    exact zeroCountNext_mem_range _ hw hlo hhi
  · rw [ZeroRunInv, effect_zr_count hz hr, effect_cfg]
    exact ⟨hlo, hhi⟩

theorem newTarget_le (s : State) : newTarget s ≤ s.cfg.RESOLUTION := newTarget_eq s ▸ Nat.min_le_right _ _

/-- What RETARGET writes: the setup, its target and the time it arrived (R170). -/
theorem effect_retarget_eq (s : State) : effect .retarget s =
    (s.clearEmission.setRamp (newTarget s) s.t_c (rampSetup s)).setPhase .rtick := rfl

/-- A jump to a duty leaves the ramp idle at it. -/
theorem rampInv_of_jump {t : State} {T : Nat} (hT : T ≤ t.cfg.RESOLUTION) (hcur : t.cur = T) (htgt : t.tgt = T)
    (hstart : t.start_duty = T) (htime : t.start_time < t.cfg.timeModulus) (hdur : t.duration = 0) (hkind : t.kind = .none) :
    RampInv t := by
  refine ⟨hcur ▸ hT, htgt ▸ hT, hstart ▸ hT, htime, hdur ▸ Nat.zero_le _, fun h => absurd hkind h, fun _ => ?_,
    fun h => absurd hkind h⟩
  rw [hcur, htgt]

/-- A ramp set up from a duty is at its start. -/
theorem rampInv_of_start {t : State} {a d : Nat} (ha : a ≤ t.cfg.RESOLUTION) (hcur : t.cur = a)
    (htgt : t.tgt ≤ t.cfg.RESOLUTION) (hstart : t.start_duty = a) (htime : t.start_time < t.cfg.timeModulus)
    (hdur : t.duration = d) (hd : 0 < d) (hmax : d ≤ t.cfg.maxRampUs) (hkind : t.kind ≠ .none) : RampInv t := by
  refine ⟨hcur ▸ ha, htgt, hstart ▸ ha, htime, hdur ▸ hmax, fun _ => hdur ▸ hd, fun h => absurd h hkind, fun _ => ?_⟩
  rw [hcur, hstart]
  exact ⟨Nat.min_le_left _ _, Nat.le_max_left _ _⟩

theorem effect_retarget_rampInv (hw : s.cfg.wf = true) (htime : TimeInv s) (hcur : s.cur ≤ s.cfg.RESOLUTION) :
    RampInv (effect .retarget s) := by
  have hT := newTarget_le s
  have hnow := t_c_lt_timeModulus htime
  have hstart : s.cfg.START_US ≤ s.cfg.maxRampUs := Nat.le_max_left _ _
  have hstop : s.cfg.STOP_US ≤ s.cfg.maxRampUs := (Nat.le_max_left _ _).trans (Nat.le_max_right _ _)
  have htrans : s.cfg.TRANS_US ≤ s.cfg.maxRampUs := (Nat.le_max_right _ _).trans (Nat.le_max_right _ _)
  rw [effect_retarget_eq]
  rcases rampSetup_cases s with hr | ⟨-, -, hpos, hr⟩ | ⟨-, -, hpos, hr⟩ | ⟨-, -, hpos, hr⟩ <;> rw [hr]
  · exact rampInv_of_jump hT rfl rfl rfl hnow rfl rfl
  · exact rampInv_of_start (Config.lowJump_le hw) rfl hT rfl hnow rfl hpos hstart nofun
  · exact rampInv_of_start hcur rfl hT rfl hnow rfl hpos hstop nofun
  · exact rampInv_of_start hcur rfl hT rfl hnow rfl hpos htrans nofun

theorem effect_rtick_rampInv (h : RampInv s) : RampInv (effect .rtick s) := by
  obtain ⟨hcur, htgt, hstart, htime, hmax, hlen, hidle, -⟩ := h
  by_cases hk : s.kind = .none
  · rw [effect_rtick_idle hk]
    exact ⟨hcur, htgt, hstart, htime, hmax, hlen, hidle, fun h => absurd hk h⟩
  by_cases hover : s.duration ≤ elapsed s
  · rw [effect_rtick_of_complete hk hover]
    exact ⟨htgt, htgt, hstart, htime, hmax, fun h => absurd rfl h, fun _ => rfl, fun h => absurd rfl h⟩
  · have hrun := Nat.lt_of_not_le hover
    have hbetween := lerp_between s.start_duty s.tgt hrun.le
    rw [effect_rtick_of_running hk hrun]
    exact ⟨hbetween.2.trans (Nat.max_le.2 ⟨hstart, htgt⟩), htgt, hstart, htime, hmax, hlen, fun h => absurd h hk,
      fun _ => hbetween⟩

theorem effect_rampInv (hw : s.cfg.wf = true) (htime : TimeInv s) (h : RampInv s) (hr : i ≠ .reset) :
    RampInv (effect i s) := by
  by_cases hf : i = .force0
  · subst hf
    exact rampInv_of_jump (Nat.zero_le _) rfl rfl rfl (t_c_lt_timeModulus htime) rfl rfl
  by_cases ht : i = .retarget
  · exact ht ▸ effect_retarget_rampInv hw htime h.1
  by_cases hk : i = .rtick
  · exact hk ▸ effect_rtick_rampInv h
  · obtain ⟨hcur, htgt, hstart, hstime, hdur, hkind⟩ := effect_ramp (s := s) hf ht hk hr
    rw [RampInv, hcur, htgt, hstart, hstime, hdur, hkind, effect_cfg]
    exact h

theorem effect_outputInv (hw : s.cfg.wf = true) (hcur : s.cur ≤ s.cfg.RESOLUTION) (h : OutputInv s) (hr : i ≠ .reset) :
    OutputInv (effect i s) := by
  by_cases ho : i = .outwr
  · subst ho
    exact outputValue_le hw hcur
  · rw [OutputInv, effect_pwm_out ho hr, effect_cfg]
    exact h

/-- The emission latch is empty in every phase but its reader's. -/
theorem tgt_pending_eq_false (h : SequencerInv s) (hp : s.phase = encode i) (hi : i ≠ .retarget) : s.tgt_pending = false :=
  Bool.eq_false_iff.2 fun hfull => hi (encode_injective (hp.symm.trans (h.2.1 hfull)))

/-- The zero-force latch is empty in every phase but its reader's. -/
theorem force_pending_eq_false (h : SequencerInv s) (hp : s.phase = encode i) (hi : i ≠ .force0) :
    s.force_pending = false :=
  Bool.eq_false_iff.2 fun hfull => hi (encode_injective (hp.symm.trans (h.2.2 hfull)))

/-- An operation in its own phase leaves the emission latch full only on the way to RETARGET. -/
theorem effect_emission_latch (h : SequencerInv s) (hp : s.phase = encode i) (hr : i ≠ .reset) :
    (effect i s).tgt_pending = true → (effect i s).phase = encode .retarget := by
  by_cases ht : i = .retarget
  · subst ht
    exact nofun
  have hempty := tgt_pending_eq_false h hp ht
  by_cases ha : i = .accum
  · subst ha
    by_cases hfull : s.avg_count + 1 = s.cfg.W
    · rw [effect_accum_of_full hfull]
      exact fun _ => rfl
    · simp [effect_accum_of_filling hfull, hempty]
  · simp [(effect_emission (s := s) ha ht hr).1, hempty]

/-- An operation in its own phase leaves the zero-force latch full only on the way to FORCE0. -/
theorem effect_force_latch (h : SequencerInv s) (hp : s.phase = encode i) (hr : i ≠ .reset) :
    (effect i s).force_pending = true → (effect i s).phase = encode .force0 := by
  by_cases hf : i = .force0
  · subst hf
    exact nofun
  have hempty := force_pending_eq_false h hp hf
  by_cases hz : i = .zrun
  · subst hz
    by_cases hfires : s.effectiveSample = 0 ∧ s.zr_count = s.cfg.ZERO_RUN_THRESHOLD
    · rw [effect_zrun_of_fires hfires.1 hfires.2]
      exact fun _ => rfl
    · simp [effect_zrun_of_not_fires hfires, hempty]
  · simp [effect_force_pending hz hf hr, hempty]

theorem effect_sequencerInv (h : SequencerInv s) (hp : s.phase = encode i) (hr : i ≠ .reset) :
    SequencerInv (effect i s) := by
  obtain ⟨j, hj⟩ := effect_phase_eq_encode i s
  exact ⟨hj ▸ encode_toNat_le j, effect_emission_latch h hp hr, effect_force_latch h hp hr⟩

/-- An operation in its own phase, or RESET in any, keeps the invariant. -/
theorem effect_blockInv (h : BlockInv s) (hi : s.phase = encode i ∨ i = .reset) : BlockInv (effect i s) := by
  obtain ⟨hw, htime, hsample, havg, hzero, hramp, -, hout, hseq⟩ := h
  by_cases hr : i = .reset
  · exact hr ▸ blockInv_effect_reset hw
  · have hp : s.phase = encode i := hi.resolve_right hr
    exact ⟨effect_cfg i s ▸ hw, effect_timeInv htime hr, effect_samplerInv hsample hr,
      effect_averagerInv hw hsample havg hr, effect_zeroRunInv hw hzero hr, effect_rampInv hw htime hramp hr,
      directionInv _, effect_outputInv hw hramp.1 hout hr, effect_sequencerInv hseq hp hr⟩

end

/-- The invariant does not speak of the stream. -/
theorem blockInv_popStream {s : State} (h : BlockInv s) : BlockInv s.popStream := h

/-- Settles O49: a step is the effect of its phase's operation or of RESET, with one word less in the stream, and each part of
the invariant is kept by each operation. -/
theorem everyStepKeepsInvariant : Obligations.EveryStepKeepsInvariant := by
  intro s t hinv hstep
  obtain ⟨i, -, hi, -, rfl⟩ := step_next hstep
  exact effect_blockInv (blockInv_popStream hinv) hi

/-- Without a stream a state with the invariant takes a step: its phase names an operation. -/
theorem exists_step_of_blockInv {s : State} (h : BlockInv s) (hs : s.stream = []) :
    ∃ t, step s = .next t ∧ BlockInv t ∧ t.stream = [] := by
  have ⟨hw, _, _, _, _, _, _, _, hphase, _⟩ := h
  obtain ⟨i, hp⟩ := exists_encode_of_toNat_le hphase
  exact ⟨effect i s, step_of_phase hw hs hp, effect_blockInv h (.inl hp), (effect_stream i s).trans hs⟩

/-- Settles O52, by induction on the number of steps: there is always a next step, and it keeps the invariant. -/
theorem theBlockNeverStops : Obligations.TheBlockNeverStops := by
  intro s n hinv hs
  induction n generalizing s with
  | zero => exact ⟨s, rfl, hinv, hs⟩
  | succ n ih =>
    obtain ⟨t, hstep, hinv', hs'⟩ := exists_step_of_blockInv hinv hs
    rw [run_next (M := Sys2Proof.core) n hstep]
    exact ih t hinv' hs'

/-- While duty 0 is driven as 0, RESET's output carries the driven duty. -/
theorem drivenInv_effect_reset {s : State} (h : zeroDrivesZero s.cfg) : DrivenInv (effect .reset s) :=
  fun _ => (outputValue_zero h).symm

/-- Settles O15: RESET writes every register, to values inside its range, and its output is 0, which is duty 0's image. -/
theorem resetEstablishesInvariant : Obligations.ResetEstablishesInvariant := by
  intro s hw
  obtain ⟨hout, hdir⟩ := effect_reset_outputs s
  exact ⟨effect .reset s, exec_of_wf .reset hw, blockInv_effect_reset hw, drivenInv_effect_reset, hout,
    State.CW_of_dir_invalid hdir, State.CCW_of_dir_invalid hdir⟩

/-- The reset state is what RESET leaves in it (R37). -/
theorem effect_reset_reset : effect .reset State.reset = State.reset := rfl

/-- Settles O50: the reset state is one that RESET leaves, under a configuration that does not calibrate. -/
theorem resetStateHasInvariant : Obligations.ResetStateHasInvariant := by
  have hw : State.reset.cfg.wf = true := by decide
  have hzero : zeroDrivesZero State.reset.cfg := .inl rfl
  have hinv := blockInv_effect_reset hw
  have hdriven := drivenInv_effect_reset hzero
  rw [effect_reset_reset] at hinv hdriven
  exact ⟨hinv, hdriven⟩

/-- The longest ramp is shorter than half the time base (R8). -/
theorem maxRampUs_lt {c : Config} (hw : c.wf = true) : c.maxRampUs < 2 ^ (c.TIME_WIDTH - 1) :=
  (Nat.le_max_left _ _).trans_lt (Config.times_lt hw)

/-- Settles O51: each register's range in the invariant is what its width was made for. -/
theorem registersFitTheirWidths : Obligations.RegistersFitTheirWidths := by
  intro s hinv
  obtain ⟨hw, htime, hsample, havg, hzero, hramp, -, hout, -⟩ := hinv
  have hsum : s.avg_sum + s.effectiveSample ≤ s.cfg.W * s.cfg.RESOLUTION :=
    (avg_sum_add_sample_le hsample havg).trans (Nat.mul_le_mul_right _ havg.1)
  have hneg : s.cfg.ZERO_RUN_BASELINE ≤ 0 := (Config.baseline_neg hw).trans (by decide)
  obtain ⟨hcur, htgt, hstart, hstime, hmax, -⟩ := hramp
  exact ⟨lt_two_pow_unsignedWidth hsample.1, lt_two_pow_unsignedWidth havg.2.2, lt_two_pow_unsignedWidth hcur,
    lt_two_pow_unsignedWidth htgt, lt_two_pow_unsignedWidth hstart, lt_two_pow_unsignedWidth hout,
    lt_two_pow_unsignedWidth hsum, lt_two_pow_unsignedWidth havg.1, signedWidth_holds hneg hzero.1 hzero.2,
    t_c_lt_timeModulus htime, hstime, nowAt_lt_timeModulus s.cfg s.tau, hmax.trans_lt (maxRampUs_lt hw)⟩

end Sys2Proof.Machine
end

section
/-! PROOFS. Encoding (30_encoding.md): decode against encode (R81), the trace text (R86) and the pseudo-operations (R87). -/

namespace Sys2Proof.Machine

theorem decode_eq_some_iff {w : OpWord} {i : Instr} : decode w = some i ↔ decodeWord w = .op i := by
  unfold decode
  cases decodeWord w <;> simp

theorem encode_of_decode {w : OpWord} {i : Instr} (h : decode w = some i) : encode i = w :=
  encode_of_decodeWord (decode_eq_some_iff.1 h)

/-- Settles O2: either direction of the round trip. -/
theorem decodeAndEncodeAgree : Obligations.DecodeAndEncodeAgree :=
  ⟨fun i _ => decode_encode i, fun _ _ => encode_of_decode⟩

theorem mnemonic_statement (i : Instr) : Laws.Mnemonic.Statement i := by
  cases i
  exacts [Laws.Mnemonic.reset, Laws.Mnemonic.calhook, Laws.Mnemonic.measure, Laws.Mnemonic.dirupd, Laws.Mnemonic.zrun,
    Laws.Mnemonic.force0, Laws.Mnemonic.accum, Laws.Mnemonic.retarget, Laws.Mnemonic.rtick, Laws.Mnemonic.outwr]

/-- The mnemonic table reads each operation's mnemonic back (R86). -/
theorem instrOfMnemonic_mnemonic (i : Instr) : instrOfMnemonic i.mnemonic = some i := by
  obtain ⟨-, hread, -⟩ := mnemonic_statement i
  exact hread

/-- A comment ends the line's text, and the blank before it does not count (R86). -/
theorem lineText_mnemonic (i : Instr) (comment : List Char) : lineText (i.mnemonic ++ [' ', ';'] ++ comment) = i.mnemonic := by
  cases i <;> rfl

theorem mnemonic_ne_nil (i : Instr) : i.mnemonic ≠ [] := by cases i <;> decide

theorem readTrace_blank (rest : List (List Char)) : readTrace ([] :: rest) = readTrace rest := rfl

/-- A line whose text is a mnemonic puts its operation before those of the lines after it (R86). -/
theorem readTrace_of_mnemonic {line : List Char} {rest : List (List Char)} {i : Instr} {is : List Instr}
    (hline : lineText line = i.mnemonic) (hrest : readTrace rest = some is) : readTrace (line :: rest) = some (i :: is) := by
  rw [readTrace, hline]
  split
  · exact absurd ‹_› (mnemonic_ne_nil i)
  · rw [instrOfMnemonic_mnemonic, hrest]

/-- Settles O4, by induction on the operations: each takes a line of its own and a blank one. -/
theorem traceReadsBack : Obligations.TraceReadsBack := by
  intro is comment
  induction is with
  | nil => rfl
  | cons i is ih => exact readTrace_of_mnemonic (lineText_mnemonic i comment) ((readTrace_blank _).trans ih)

/-- Settles O5: the strings are the operations' own words in order. -/
theorem cycleWordStrings : Obligations.CycleWordStrings := ⟨rfl, rfl, rfl, rfl⟩

end Sys2Proof.Machine
end

section
/-! PROOFS. The step (46_sequencer.md R253, 60_exceptions.md R302): what it runs, and in which cases it is refused. -/

namespace Sys2Proof.Machine

theorem nextWord_of_nil {s : State} (h : s.stream = []) : nextWord s = s.phase := by rw [nextWord, h, List.headD_nil]

theorem nextWord_of_cons {s : State} {w : OpWord} {ws : List OpWord} (h : s.stream = w :: ws) : nextWord s = w := by
  rw [nextWord, h, List.headD_cons]

theorem popStream_of_cons {s : State} {w : OpWord} {ws : List OpWord} (h : s.stream = w :: ws) :
    s.popStream = { s with stream := ws } := by
  rw [State.popStream, h, List.tail_cons]

/-- A step on a word that is in order is its operation, refused or not, on the state without that word. -/
theorem step_eq_exec {s : State} {i : Instr} (hd : decode (nextWord s) = some i)
    (ho : nextWord s = s.phase ∨ nextWord s = encode .reset) : step s = exec i s.popStream := by
  cases hw : s.cfg.wf with
  | false =>
    have hw' : s.popStream.cfg.wf = false := hw
    rw [step_of_not_wf hw, exec_of_not_wf i hw']
  | true =>
    have hw' : s.popStream.cfg.wf = true := hw
    rw [step_of_order hw (decode_eq_some_iff.1 hd) ho, exec_of_wf i hw']

/-- Settles O7: the word is the phase's where there is no stream, and the stream's first where there is one. -/
theorem stepRunsDecodedInstruction : Obligations.StepRunsDecodedInstruction := by
  intro s i _
  constructor
  · intro hs hd
    have hn := nextWord_of_nil hs
    rw [step_eq_exec (hn ▸ hd) (.inl hn), popStream_of_nil hs]
  · intro w ws hs hd hi
    have hn := nextWord_of_cons hs
    have ho : w = s.phase ∨ w = encode .reset := 
      hi.imp_right fun hreset => (encode_of_decode hd).symm.trans (congrArg encode hreset)
    rw [step_eq_exec (hn ▸ hd) (hn ▸ ho), popStream_of_cons hs]

/-- Settles O8: the configuration, the word and its order decide, in this sequence, which one of four answers a step gives; each
clause of the statement holds of exactly one of them. -/
theorem stepRefusesInThreeCases : Obligations.StepRefusesInThreeCases := by
  intro s w hword
  obtain rfl : nextWord s = w := hword.symm
  cases hw : s.cfg.wf with
  | false => simp [step_of_not_wf hw]
  | true =>
    cases hd : decodeWord (nextWord s) with
    | reserved => simp [step_of_reserved hw hd]
    | op i =>
      by_cases ho : nextWord s = s.phase ∨ nextWord s = encode .reset
      · have ho' : nextWord s = s.phase ∨ nextWord s = 0x0#4 := ho
        have hdisorder : ¬(nextWord s ≠ s.phase ∧ nextWord s ≠ 0x0#4) := fun h => ho'.elim h.1 h.2
        simp [step_of_order hw hd ho, ho', hdisorder, -not_and]
      · obtain ⟨hp, hr⟩ := not_or.1 ho
        have hr' : nextWord s ≠ 0x0#4 := hr
        simp [step_of_disorder hw hd hp hr, hp, hr']

/-- Every operation is refused for the configuration, or for nothing. -/
theorem exec_badConfig_iff {i : Instr} {s : State} : exec i s = .refused .badConfig ↔ s.cfg.wf = false := by
  cases hw : s.cfg.wf with
  | false => simp [exec_of_not_wf i hw]
  | true => simp [exec_of_wf i hw]

theorem step_badConfig_iff {s : State} : step s = .refused .badConfig ↔ s.cfg.wf = false :=
  (stepRefusesInThreeCases s (nextWord s) rfl).1

/-- Settles O56: both refusals are the configuration check's, whose clauses are R8's and the output's. -/
theorem refusedConfigurationsAreExactlyThese : Obligations.RefusedConfigurationsAreExactlyThese := by
  intro i s wellFormed outputFits
  have hwf : s.cfg.wf = true ↔ wellFormed ∧ outputFits := s.cfg.wf_iff_meetsR8
  rw [exec_badConfig_iff, step_badConfig_iff, and_self, ← hwf, Bool.not_eq_true]

/-- Settles O10: an operation's effect, with its frame. -/
theorem everyOperationCompletes : Obligations.EveryOperationCompletes := by
  intro i s hw
  exact ⟨effect i s, exec_of_wf i hw, effect_cfg i s, effect_env i s, effect_stream i s, effect_resetTimes⟩

/-- RESET with no time given (assumption 5): the reset values at the time reached. -/
theorem effect_reset_of_none {s : State} (h : s.resetTimes = []) : effect .reset s = { resetAt s s.tau with resetTimes := [] } := by
  rw [effect, resetEffect, State.resetTime, h, List.headD_nil, State.popResetTime, show (resetAt s s.tau).resetTimes = [] from h,
    List.tail_nil]

/-- Settles O13: the effect of RESET at the time reached, each register's reset value written out. -/
theorem resetWithoutGivenTimeKeepsTime : Obligations.ResetWithoutGivenTimeKeepsTime := by
  intro s hw hnone
  rw [exec_of_wf .reset hw, effect_reset_of_none hnone]
  rfl

end Sys2Proof.Machine
end

section
/-! PROOFS. Who writes what (10_state.md R34, 20_memory.md R72, 70_reset_and_hazards.md R331, R333, R340): each statement says that
a register that changed was changed by one of its writers, so its proof is the frame of every other operation. -/

namespace Sys2Proof.Machine

/-- Settles O24: the frame of time. -/
theorem onlyMeasureTakesTime : Obligations.OnlyMeasureTakesTime := by
  intro i s t hm hr hexec
  obtain ⟨-, rfl⟩ := exec_next_iff.1 hexec
  exact effect_time hm hr

theorem effect_accum_tgt_pending {s : State} (h : s.tgt_pending = true) : (effect .accum s).tgt_pending = true := by
  by_cases hfull : s.avg_count + 1 = s.cfg.W
  · rw [effect_accum_of_full hfull]
    rfl
  · rw [effect_accum_of_filling hfull]
    exact h

theorem effect_zrun_force_pending {s : State} (h : s.force_pending = true) : (effect .zrun s).force_pending = true := by
  by_cases hfires : s.effectiveSample = 0 ∧ s.zr_count = s.cfg.ZERO_RUN_THRESHOLD
  · rw [effect_zrun_of_fires hfires.1 hfires.2]
    rfl
  · rw [effect_zrun_of_not_fires hfires]
    exact h

theorem effect_dirupd_dir_valid {s : State} (h : s.dir_valid = true) : (effect .dirupd s).dir_valid = true := by
  simp only [effect, dirupdEffect]
  split
  · rfl
  · exact h

section
variable {i : Instr} {s : State}

theorem eq_measure_of_smp_valid_ne (hr : i ≠ .reset) (h : (effect i s).smp_valid ≠ s.smp_valid) : i = .measure := by
  by_contra hm
  exact h (effect_sample hm hr).2

/-- The emission latch changes in ACCUM, which does not clear it, and in RETARGET, which does not set it. -/
theorem emission_latch_writers (hr : i ≠ .reset) :
    (s.tgt_pending = false → (effect i s).tgt_pending = true → i = .accum) ∧
      (s.tgt_pending = true → (effect i s).tgt_pending = false → i = .retarget) := by
  by_cases ha : i = .accum
  · subst ha
    exact ⟨fun _ _ => rfl, fun hset hclear => absurd (effect_accum_tgt_pending hset) (Bool.eq_false_iff.1 hclear)⟩
  by_cases ht : i = .retarget
  · subst ht
    exact ⟨fun _ => nofun, fun _ _ => rfl⟩
  · rw [(effect_emission (s := s) ha ht hr).1]
    exact ⟨fun hclear hset => absurd hset (Bool.eq_false_iff.1 hclear),
      fun hset hclear => absurd hset (Bool.eq_false_iff.1 hclear)⟩

/-- The zero-force latch changes in ZRUN, which does not clear it, and in FORCE0, which does not set it. -/
theorem force_latch_writers (hr : i ≠ .reset) :
    (s.force_pending = false → (effect i s).force_pending = true → i = .zrun) ∧
      (s.force_pending = true → (effect i s).force_pending = false → i = .force0) := by
  by_cases hz : i = .zrun
  · subst hz
    exact ⟨fun _ _ => rfl, fun hset hclear => absurd (effect_zrun_force_pending hset) (Bool.eq_false_iff.1 hclear)⟩
  by_cases hf : i = .force0
  · subst hf
    exact ⟨fun _ => nofun, fun _ _ => rfl⟩
  · rw [effect_force_pending (s := s) hz hf hr]
    exact ⟨fun hclear hset => absurd hset (Bool.eq_false_iff.1 hclear),
      fun hset hclear => absurd hset (Bool.eq_false_iff.1 hclear)⟩

/-- The direction becomes defined in DIRUPD, and no operation but RESET undefines it. -/
theorem dir_valid_writers (hr : i ≠ .reset) :
    (s.dir_valid = false → (effect i s).dir_valid = true → i = .dirupd) ∧
      (s.dir_valid = true → (effect i s).dir_valid = true) := by
  by_cases hd : i = .dirupd
  · subst hd
    exact ⟨fun _ _ => rfl, effect_dirupd_dir_valid⟩
  · rw [(effect_direction (s := s) hd hr).2]
    exact ⟨fun hclear hset => absurd hset (Bool.eq_false_iff.1 hclear), id⟩

theorem eq_outwr_or_reset_of_pwm_out_ne (h : (effect i s).pwm_out ≠ s.pwm_out) : i = .outwr ∨ i = .reset := by
  by_contra hne
  obtain ⟨ho, hr⟩ := not_or.1 hne
  exact h (effect_pwm_out ho hr)

/-- CW and CCW stay as they are in an operation that leaves the direction registers alone. -/
theorem effect_directionPorts (hl : (effect i s).dir_latched = s.dir_latched) (hv : (effect i s).dir_valid = s.dir_valid) :
    ¬((effect i s).CW ≠ s.CW ∨ (effect i s).CCW ≠ s.CCW) := by
  obtain ⟨hcw, hccw⟩ := directionPorts_congr hl hv (effect_cfg i s)
  simp [hcw, hccw]

theorem eq_dirupd_or_reset_of_directionPorts_ne (h : (effect i s).CW ≠ s.CW ∨ (effect i s).CCW ≠ s.CCW) :
    i = .dirupd ∨ i = .reset := by
  by_contra hne
  obtain ⟨hd, hr⟩ := not_or.1 hne
  obtain ⟨hl, hv⟩ := effect_direction (s := s) hd hr
  exact effect_directionPorts hl hv h

end

/-- Settles O47: each flag by its writers. -/
theorem flagsHaveOneSetterAndOneClearer : Obligations.FlagsHaveOneSetterAndOneClearer := by
  intro i s t hr hexec
  obtain ⟨-, rfl⟩ := exec_next_iff.1 hexec
  obtain ⟨hset, hclear⟩ := emission_latch_writers (s := s) hr
  obtain ⟨hforce, hunforce⟩ := force_latch_writers (s := s) hr
  exact ⟨eq_measure_of_smp_valid_ne hr, hset, hclear, hforce, hunforce, dir_valid_writers hr⟩

/-- Settles O48: the frames of the output and of the direction registers. -/
theorem outputsChangeOnlyInTheirDriver : Obligations.OutputsChangeOnlyInTheirDriver := by
  intro i s t hexec
  obtain ⟨-, rfl⟩ := exec_next_iff.1 hexec
  exact ⟨eq_outwr_or_reset_of_pwm_out_ne, eq_dirupd_or_reset_of_directionPorts_ne⟩

/-- An operation other than RETARGET leaves an idle duty of 0 idle at 0. -/
theorem effect_idle_zero {i : Instr} {s : State} (ht : i ≠ .retarget) (hcur : s.cur = 0) (hkind : s.kind = .none) :
    (effect i s).cur = 0 ∧ (effect i s).kind = .none := by
  by_cases hf : i = .force0
  · subst hf
    exact ⟨rfl, rfl⟩
  by_cases hr : i = .reset
  · subst hr
    exact ⟨rfl, rfl⟩
  by_cases hk : i = .rtick
  · subst hk
    rw [effect_rtick_idle hkind]
    exact ⟨hcur, hkind⟩
  · obtain ⟨hcur', -, -, -, -, hkind'⟩ := effect_ramp (s := s) hf ht hk hr
    exact ⟨hcur'.trans hcur, hkind'.trans hkind⟩

/-- At duty 0, driven as 0, no operation takes the output away from 0. -/
theorem effect_pwm_out_zero {i : Instr} {s : State} (hz : zeroDrivesZero s.cfg) (hcur : s.cur = 0) (hout : s.pwm_out = 0) :
    (effect i s).pwm_out = 0 := by
  by_cases ho : i = .outwr
  · subst ho
    rw [effect_outwr_eq, hcur]
    exact outputValue_zero hz
  by_cases hr : i = .reset
  · subst hr
    rfl
  · exact (effect_pwm_out ho hr).trans hout

/-- Settles O54: the duty and the ramp by their frames, and the output as the image of duty 0. -/
theorem outputStaysZeroUntilRetarget : Obligations.OutputStaysZeroUntilRetarget := by
  intro s t hz hcur hkind hout hstep hdecode
  obtain ⟨i, hword, -, -, rfl⟩ := step_next hstep
  have ht : i ≠ .retarget := by
    rintro rfl
    exact hdecode (hword ▸ decode_encode _)
  obtain ⟨hcur', hkind'⟩ := effect_idle_zero (s := s.popStream) ht hcur hkind
  exact ⟨hcur', hkind', effect_pwm_out_zero (s := s.popStream) hz hcur hout⟩

/-- An operation in its own phase, or RESET in any, keeps what `DrivenInv` says: RESET and OUTWR drive the duty, CALHOOK and
MEASURE leave duty and output alone, and after any other operation nothing is claimed. -/
theorem effect_drivenInv {i : Instr} {s : State} (hz : zeroDrivesZero s.cfg) (h : DrivenInv s)
    (hi : s.phase = encode i ∨ i = .reset) : DrivenInv (effect i s) := by
  have hkeep : (s.phase = encode .calhook ∨ s.phase = encode .measure ∨ s.phase = encode .dirupd) → i ≠ .outwr →
      i ≠ .reset → i ≠ .force0 → i ≠ .retarget → i ≠ .rtick → DrivenInv (effect i s) := by
    intro hp ho hr hf ht hk _
    rw [effect_pwm_out ho hr, (effect_ramp hf ht hk hr).1, effect_cfg]
    exact h hp
  cases i
  case reset => exact drivenInv_effect_reset hz
  case outwr => exact fun _ => effect_outwr_driven
  case calhook =>
    exact hkeep (.inl (hi.resolve_right nofun)) nofun nofun nofun nofun nofun
  case measure =>
    exact hkeep (.inr (.inl (hi.resolve_right nofun))) nofun nofun nofun nofun nofun
  case dirupd => rw [DrivenInv, effect_dirupd_phase]; exact fun hp => absurd hp (by decide)
  case zrun => rw [DrivenInv, effect_zrun_phase]; split <;> exact fun hp => absurd hp (by decide)
  case force0 => rw [DrivenInv, effect_force0_phase]; exact fun hp => absurd hp (by decide)
  case accum => rw [DrivenInv, effect_accum_phase]; split <;> exact fun hp => absurd hp (by decide)
  case retarget => rw [DrivenInv, effect_retarget_phase]; exact fun hp => absurd hp (by decide)
  case rtick => rw [DrivenInv, effect_rtick_phase]; exact fun hp => absurd hp (by decide)

/-- With the gate on, a DIRUPD that changes CW or CCW found the duty at 0 (R213). -/
theorem cur_eq_zero_of_dirupd_changes {s : State} (hgate : s.cfg.DIR_GATE = true)
    (h : (effect .dirupd s).CW ≠ s.CW ∨ (effect .dirupd s).CCW ≠ s.CCW) : s.cur = 0 := by
  by_contra hcur
  have hclosed := effect_dirupd_of_closed hgate hcur
  exact effect_directionPorts (by rw [hclosed]; rfl) (by rw [hclosed]; rfl) h

/-- Settles O44: the step keeps `DrivenInv`, which has the output at duty 0's image in a DIRUPD whose gate is open. -/
theorem directionChangesOnlyAtZeroOutput : Obligations.DirectionChangesOnlyAtZeroOutput := by
  intro s t hgate hz hdriven hstep
  obtain ⟨i, hword, hi, -, rfl⟩ := step_next hstep
  refine ⟨effect_drivenInv (s := s.popStream) hz hdriven hi, fun hchange => ?_⟩
  rw [hword, decode_encode]
  rcases eq_dirupd_or_reset_of_directionPorts_ne (s := s.popStream) hchange with rfl | rfl
  · have hcur : s.cur = 0 := cur_eq_zero_of_dirupd_changes (s := s.popStream) hgate hchange
    have hout := hdriven (.inr (.inr (hi.resolve_right nofun)))
    rw [hcur, outputValue_zero hz] at hout
    exact .inl ⟨rfl, hcur, hout⟩
  · exact .inr ⟨rfl, rfl⟩

end Sys2Proof.Machine
end

section
/-! PROOFS. Output Driver (45_output.md R231, R232): the calibration table. -/

namespace Sys2Proof.Machine

theorem calmap_full_scale {c : Config} (hR : c.RESOLUTION ≠ 0) (hb : c.CAL_LOWER ≤ c.CAL_UPPER) :
    calmap c c.RESOLUTION = c.CAL_UPPER := by
  rw [calmap_of_linear (.inl hR), Nat.mul_div_cancel_left _ (Nat.pos_of_ne_zero hR), Nat.add_sub_cancel' hb]

/-- From duty 1 up the map is its linear branch, which does not decrease (R231). -/
theorem calmap_mono {c : Config} {d d' : Nat} (hd : 1 ≤ d) (hle : d ≤ d') : calmap c d ≤ calmap c d' := by
  rw [calmap_of_linear (.inl (by omega)), calmap_of_linear (.inl (by omega))]
  exact Nat.add_le_add_left (Nat.div_le_div_right (Nat.mul_le_mul_right _ hle)) _

/-- Settles O46: the driven value is the map, whose linear branch runs from CAL_LOWER to CAL_UPPER. -/
theorem calibrationMapIsMonotone : Obligations.CalibrationMapIsMonotone := by
  intro c hw hcal
  have hR : c.RESOLUTION ≠ 0 := (Config.resolution_pos hw).ne'
  have hb := (Config.calibration_le hw hcal).1
  simp only [outputValue_of_calibrated _ hcal]
  exact ⟨by simp [calibrationTable], fun d hd => ⟨calibrationTable_get hd, calmap_le hb hd⟩, calmap_full_scale hR hb,
    fun d d' hd hle _ => calmap_mono hd hle⟩

end Sys2Proof.Machine
end

section
/-! PROOFS. Sampler (40_sampler.md R101 to R106, 70_reset_and_hazards.md R335, R340): the line between two edges, what MEASURE
leaves on a steady line, the extremes of the pulse width, and the window a measurement looks at. -/

namespace Sys2Proof.Machine

/-- Where a line has no edge it holds its level (R100). -/
theorem level_eq_of_no_edge {w : Waveform} {τ τ' : Nat} (hw : w.wf = true) (hle : τ ≤ τ')
    (h : ∀ x, τ < x → x ≤ τ' → w.hasEdge x = false) : w.level τ' = w.level τ := by
  induction τ', hle using Nat.le_induction with
  | base => rfl
  | succ n hn ih =>
    rw [level_succ_of_no_edge hw (h (n + 1) (by omega) le_rfl), ih fun x hx hxn => h x hx (by omega)]

/-- Before its next edge a line holds its level (R100). -/
theorem level_before_nextEdge {w : Waveform} {τ e τ' : Nat} (hw : w.wf = true) (he : IsNextEdge w τ e) (hle : τ ≤ τ')
    (hlt : τ' < e) : w.level τ' = w.level τ :=
  level_eq_of_no_edge hw hle fun x hx hxτ' => Bool.eq_false_iff.2 fun hedge =>
    absurd (he.2.2 x hedge hx) (by omega)

/-- At its next edge a line toggles (R100). -/
theorem level_at_nextEdge {w : Waveform} {τ e : Nat} (hw : w.wf = true) (he : IsNextEdge w τ e) :
    w.level e = !w.level τ := by
  have ⟨hedge, hlt, _⟩ := he
  obtain ⟨n, rfl⟩ := Nat.exists_eq_succ_of_ne_zero (Nat.ne_zero_of_lt hlt)
  rw [level_succ_of_edge hw hedge, level_before_nextEdge hw he (by omega) (Nat.lt_succ_self n)]

/-- The first edge of a qualifying pair is the next one after a time at which the line is inactive: the start of the measurement,
or the end of the pulse in progress there (R102). -/
theorem QualifyingPair_from_inactive {c : Config} {w : Waveform} {τ0 τr τf : Nat} (hw : w.wf = true)
    (h : QualifyingPair c w τ0 τr τf) : ∃ τs, w.level τs ≠ activeLevel c ∧ IsNextEdge w τs τr := by
  obtain ⟨-, -, ⟨hlevel, hr⟩ | ⟨hlevel, τs, hs, hr⟩⟩ := h
  · exact ⟨τ0, hlevel, hr⟩
  · refine ⟨τs, ?_, hr⟩
    rw [level_at_nextEdge hw hs, hlevel]
    exact Bool.not_ne_self _

/-- Settles O20: from an inactive level the first edge makes the line active and the second inactive, with no edge between. -/
theorem measuredPulseIsOneWholeActivePulse : Obligations.MeasuredPulseIsOneWholeActivePulse := by
  intro c w τ0 τr τf hw hpair
  obtain ⟨hstart, hlt, hend⟩ := QualifyingPair_bounds hpair
  obtain ⟨τs, hinactive, hr⟩ := QualifyingPair_from_inactive hw hpair
  have hτs : τs < τr := hr.2.1
  have hf : IsNextEdge w τr τf := hpair.1
  have hactive : w.level τr = activeLevel c := by
    rw [level_at_nextEdge hw hr, Bool.not_eq]
    exact hinactive
  have hbefore : w.level (τr - 1) ≠ activeLevel c := by
    rw [level_before_nextEdge hw hr (by omega) (by omega)]
    exact hinactive
  have hafter : w.level τf ≠ activeLevel c := by
    rw [level_at_nextEdge hw hf, hactive]
    exact Bool.not_ne_self _
  exact ⟨hstart, hlt, hend, hbefore, fun τ hτ hτf => (level_before_nextEdge hw hf hτ hτf).trans hactive, hafter⟩

/-- Without an edge in the window no pair qualifies. -/
theorem not_qualifyingPair_of_steady {c : Config} {w : Waveform} {τ0 : Nat}
    (h : ∀ e, w.hasEdge e = true → τ0 < e → τ0 + c.TIMEOUT_US < e) (τr τf : Nat) : ¬QualifyingPair c w τ0 τr τf := by
  intro hpair
  obtain ⟨hstart, hlt, hend⟩ := QualifyingPair_bounds hpair
  exact absurd (h τf hpair.1.1 (hstart.trans hlt)) (by omega)

/-- Settles O21: a steady line has no qualifying pair. -/
theorem steadyLineReadsZero : Obligations.SteadyLineReadsZero := by
  intro s hw hsteady
  refine ⟨effect .measure s, exec_of_wf .measure hw, ?_⟩
  rw [effect_measure_of_no_pair (not_qualifyingPair_of_steady hsteady)]
  exact ⟨rfl, rfl, rfl⟩

theorem dutyOfWidth_of_short {c : Config} {w : Nat} (h : w * c.RESOLUTION * c.PWM_FREQUENCY < 1000000) :
    dutyOfWidth c w = 0 := by
  rw [dutyOfWidth_eq, Nat.div_eq_of_lt h, Nat.zero_min]

theorem dutyOfWidth_of_period {c : Config} {w : Nat} (h : 1000000 ≤ w * c.PWM_FREQUENCY) :
    dutyOfWidth c w = c.RESOLUTION := by
  have hfull : c.RESOLUTION ≤ w * c.RESOLUTION * c.PWM_FREQUENCY / 1000000 :=
    (Nat.le_div_iff_mul_le (by decide)).2 <| calc
      c.RESOLUTION * 1000000 ≤ c.RESOLUTION * (w * c.PWM_FREQUENCY) := Nat.mul_le_mul_left _ h
      _ = w * c.RESOLUTION * c.PWM_FREQUENCY := by ring
  rw [dutyOfWidth_eq, Nat.min_eq_right hfull]

/-- Settles O22: the sample is the width's duty, and the duty of R103 at the two extremes. -/
theorem pulseWidthExtremes : Obligations.PulseWidthExtremes := by
  intro s τr τf hw hpair
  refine ⟨effect .measure s, exec_of_wf .measure hw, ?_⟩
  rw [effect_measure_of_pair hpair]
  exact ⟨rfl, dutyOfWidth_of_short, dutyOfWidth_of_period⟩

/-- MEASURE ends after its start and by its deadline (R340). -/
theorem effect_measure_tau_bounds {s : State} (hw : s.cfg.wf = true) :
    s.tau < (effect .measure s).tau ∧ (effect .measure s).tau ≤ s.tau + s.cfg.TIMEOUT_US := by
  rcases measureEffect_cases s with ⟨τr, τf, hpair, he⟩ | ⟨-, he⟩ <;> rw [effect, he]
  · obtain ⟨hstart, hlt, hend⟩ := QualifyingPair_bounds hpair
    exact ⟨hstart.trans hlt, hend⟩
  · exact ⟨Nat.lt_add_of_pos_right (Config.timeout_pos hw), le_rfl⟩

theorem effect_measure_t_c (s : State) : (effect .measure s).t_c = nowAt s.cfg (effect .measure s).tau := by
  rcases measureEffect_cases s with ⟨τr, τf, -, he⟩ | ⟨-, he⟩ <;> rw [effect, he] <;> rfl

/-- Settles O23: a pair lies in the window, and without one the window's end is the measurement's. -/
theorem measureEndsInsideItsWindow : Obligations.MeasureEndsInsideItsWindow := by
  intro s hw
  obtain ⟨hstart, hend⟩ := effect_measure_tau_bounds hw
  exact ⟨effect .measure s, exec_of_wf .measure hw, hstart, hend, effect_measure_t_c s⟩

/-- Two lines have the same edges after τ0 and by D. -/
def SameEdges (w w' : Waveform) (τ0 D : Nat) : Prop := ∀ e, τ0 < e → e ≤ D → w'.hasEdge e = w.hasEdge e

theorem SameEdges_symm {w w' : Waveform} {τ0 D : Nat} (h : SameEdges w w' τ0 D) : SameEdges w' w τ0 D :=
  fun e he hD => (h e he hD).symm

/-- A next edge that comes by the deadline is the other line's as well. -/
theorem IsNextEdge_of_sameEdges {w w' : Waveform} {τ0 D τ e : Nat} (hsame : SameEdges w w' τ0 D) (hτ : τ0 ≤ τ)
    (he : e ≤ D) (h : IsNextEdge w τ e) : IsNextEdge w' τ e := by
  obtain ⟨hedge, hlt, hleast⟩ := h
  refine ⟨(hsame e (by omega) he).trans hedge, hlt, fun x hx hτx => ?_⟩
  by_contra hxe
  have hsame_x := hsame x (by omega) (by omega)
  exact hxe (hleast x (hsame_x.symm.trans hx) hτx)

/-- A pair qualifies by the level at the start and the edges of the window (R102). -/
theorem QualifyingPair_of_sameEdges {c : Config} {w w' : Waveform} {τ0 τr τf : Nat}
    (hlevel : w'.level τ0 = w.level τ0) (hsame : SameEdges w w' τ0 (τ0 + c.TIMEOUT_US)) (h : QualifyingPair c w τ0 τr τf) :
    QualifyingPair c w' τ0 τr τf := by
  obtain ⟨hstart, hlt, -⟩ := QualifyingPair_bounds h
  obtain ⟨hf, hend, hr⟩ := h
  refine ⟨IsNextEdge_of_sameEdges hsame hstart.le hend hf, hend, ?_⟩
  rw [hlevel]
  rcases hr with ⟨hin, hr⟩ | ⟨hact, τs, hs, hr⟩
  · exact .inl ⟨hin, IsNextEdge_of_sameEdges hsame le_rfl (hlt.le.trans hend) hr⟩
  · have hτs : τs ≤ τr := hr.2.1.le
    exact .inr ⟨hact, τs, IsNextEdge_of_sameEdges hsame le_rfl (hτs.trans (hlt.le.trans hend)) hs,
      IsNextEdge_of_sameEdges hsame hs.2.1.le (hlt.le.trans hend) hr⟩

/-- The search finds the same on two lines that agree in its window. -/
theorem qualifyingPair_congr {c : Config} {w w' : Waveform} {τ0 : Nat} (hlevel : w'.level τ0 = w.level τ0)
    (hsame : SameEdges w w' τ0 (τ0 + c.TIMEOUT_US)) : qualifyingPair c w' τ0 = qualifyingPair c w τ0 := by
  refine Option.ext fun ⟨τr, τf⟩ => ?_
  rw [qualifyingPair_eq_some, qualifyingPair_eq_some]
  exact ⟨QualifyingPair_of_sameEdges hlevel.symm (SameEdges_symm hsame), QualifyingPair_of_sameEdges hlevel hsame⟩

/-- MEASURE's four results follow from the configuration, the start and what the search finds. -/
theorem effect_measure_congr {s s' : State} (hcfg : s'.cfg = s.cfg) (htau : s'.tau = s.tau)
    (hpair : qualifyingPair s'.cfg s'.env.pwm s'.tau = qualifyingPair s.cfg s.env.pwm s.tau) :
    (effect .measure s').smp_value = (effect .measure s).smp_value ∧
      (effect .measure s').smp_valid = (effect .measure s).smp_valid ∧
      (effect .measure s').tau = (effect .measure s).tau ∧ (effect .measure s').t_c = (effect .measure s).t_c := by
  simp only [effect, measureEffect, hpair]
  cases qualifyingPair s.cfg s.env.pwm s.tau <;> simp [hcfg, htau]

/-- Settles O25: the search finds the same pair on both lines. -/
theorem measureSeesOnlyItsWindow : Obligations.MeasureSeesOnlyItsWindow := by
  intro s s' hw hcfg htau hlevel hsame
  have hw' : s'.cfg.wf = true := hcfg ▸ hw
  have hpair : qualifyingPair s'.cfg s'.env.pwm s'.tau = qualifyingPair s.cfg s.env.pwm s.tau := by
    rw [hcfg, htau]
    exact qualifyingPair_congr hlevel hsame
  exact ⟨effect .measure s, effect .measure s', exec_of_wf .measure hw, exec_of_wf .measure hw',
    effect_measure_congr hcfg htau hpair⟩

end Sys2Proof.Machine
end

section
/-! PROOFS. Running Averager (41_averager.md R133): a list of samples, one ACCUM each. -/

namespace Sys2Proof.Machine

theorem effectiveSample_setSample (s : State) (x : Nat × Bool) : (s.setSample x.1 x.2).effectiveSample = contribution x := rfl

/-- The first sample's ACCUM, and then the rest. -/
theorem accumAll_cons {s : State} (x : Nat × Bool) (rest : List (Nat × Bool)) (hw : s.cfg.wf = true) :
    accumAll (x :: rest) s = accumAll rest (effect .accum (s.setSample x.1 x.2)) := by
  obtain ⟨v, ok⟩ := x
  have hw' : (s.setSample v ok).cfg.wf = true := hw
  rw [accumAll, exec_of_wf .accum hw']

/-- Samples that do not fill the window are counted and summed, and nothing is emitted. -/
theorem accumAll_filling {xs : List (Nat × Bool)} {s : State} (hw : s.cfg.wf = true) (hpending : s.tgt_pending = false)
    (hlen : s.avg_count + xs.length < s.cfg.W) : ∃ t, accumAll xs s = .next t ∧ t.tgt_pending = false ∧
      t.avg_count = s.avg_count + xs.length ∧ t.avg_sum = s.avg_sum + (xs.map contribution).sum ∧ t.cfg = s.cfg := by
  induction xs generalizing s with
  | nil => exact ⟨s, rfl, hpending, rfl, rfl, rfl⟩
  | cons x rest ih =>
    rw [List.length_cons] at hlen
    have hfilling : (s.setSample x.1 x.2).avg_count + 1 ≠ (s.setSample x.1 x.2).cfg.W := by
      simp only [State.setSample_avg_count, State.setSample_cfg]
      omega
    rw [accumAll_cons x rest hw, effect_accum_of_filling hfilling, effectiveSample_setSample]
    obtain ⟨t, hrun, hpending', hcount, hsum, hcfg⟩ :=
      ih (s := (((s.setSample x.1 x.2).setWindow (s.avg_sum + contribution x) (s.avg_count + 1)).setPhase .rtick))
        hw hpending (by simpa [Nat.add_assoc, Nat.add_comm 1] using hlen)
    refine ⟨t, hrun, hpending', ?_, ?_, hcfg⟩
    · simpa [Nat.add_assoc, Nat.add_comm 1] using hcount
    · simpa [Nat.add_assoc] using hsum

theorem accumAll_append {xs ys : List (Nat × Bool)} {s t : State} (h : accumAll xs s = .next t) :
    accumAll (xs ++ ys) s = accumAll ys t := by
  induction xs generalizing s with
  | nil => cases h; rfl
  | cons x rest ih =>
    obtain ⟨v, ok⟩ := x
    rw [List.cons_append]
    simp only [accumAll] at h ⊢
    cases hexec : exec .accum (s.setSample v ok) with
    | next u =>
      rw [hexec] at h
      exact ih h
    | fault r => rw [hexec] at h; cases h
    | refused r => rw [hexec] at h; cases h

/-- The sample that fills the window emits the mean and leaves the window empty. -/
theorem accumAll_full {s : State} (x : Nat × Bool) (hw : s.cfg.wf = true) (hfull : s.avg_count + 1 = s.cfg.W) :
    ∃ t, accumAll [x] s = .next t ∧ t.tgt_pending = true ∧ t.tgt_value = (s.avg_sum + contribution x) / s.cfg.W ∧
      t.avg_sum = 0 ∧ t.avg_count = 0 ∧ t.phase = encode .retarget := by
  have hfull' : (s.setSample x.1 x.2).avg_count + 1 = (s.setSample x.1 x.2).cfg.W := hfull
  refine ⟨effect .accum (s.setSample x.1 x.2), accumAll_cons x [] hw, ?_⟩
  rw [effect_accum_of_full hfull']
  exact ⟨rfl, rfl, rfl, rfl, rfl⟩

/-- Settles O27: the samples before the last fill the window and emit nothing, by induction on their list; the last one closes
it. -/
theorem windowEmitsFloorMean : Obligations.WindowEmitsFloorMean := by
  intro s samples hw hcount hsum hpending hlen
  have hprefix : ∀ n, n < s.cfg.W → ∃ t, accumAll (samples.take n) s = .next t ∧ t.tgt_pending = false ∧
      t.avg_count = n ∧ t.avg_sum = ((samples.take n).map contribution).sum ∧ t.cfg = s.cfg := by
    intro n hn
    have htake : (samples.take n).length = n := List.length_take_of_le (by omega)
    have := accumAll_filling (xs := samples.take n) hw hpending (by omega)
    simpa only [hcount, hsum, htake, Nat.zero_add] using this
  constructor
  · have hpos := Config.window_pos hw
    obtain ⟨t, hrun, -, hcount', hsum', hcfg⟩ := hprefix (s.cfg.W - 1) (by omega)
    have hlast : samples.take (s.cfg.W - 1) ++ [samples[s.cfg.W - 1]] = samples := by
      rw [List.take_append_getElem, Nat.sub_add_cancel hpos, ← hlen, List.take_length]
    have htotal : ((samples.take (s.cfg.W - 1)).map contribution).sum + contribution samples[s.cfg.W - 1] =
        (samples.map contribution).sum := by
      conv_rhs => rw [← hlast]
      rw [List.map_append, List.sum_append, List.map_singleton, List.sum_singleton]
    obtain ⟨u, hemit, hset, hmean, hempty⟩ :=
      accumAll_full (s := t) samples[s.cfg.W - 1] (hcfg ▸ hw) (by rw [hcfg, hcount']; omega)
    refine ⟨u, ?_, hset, ?_, hempty⟩
    · rw [← hemit, ← accumAll_append hrun, hlast]
    · rw [hmean, hsum', hcfg, htotal]
  · intro n hn
    obtain ⟨t, hrun, hpending', hcount', -⟩ := hprefix n hn
    exact ⟨t, hrun, hpending', hcount'⟩

end Sys2Proof.Machine
end

section
/-! PROOFS. Zero-Run Detector (42_zero_run.md R152, R154): consecutive zeros from the baseline. -/

namespace Sys2Proof.Machine

/-- On a zero the counter goes up by one, and no further than N + 1. -/
theorem zeroCountNext_zero {c : Config} {zr : Int} (h : zr ≤ (c.ZERO_RUN_THRESHOLD : Int) + 1) :
    zeroCountNext c 0 zr = min (zr + 1) (c.ZERO_RUN_THRESHOLD + 1) := by
  rcases le_or_gt zr c.ZERO_RUN_THRESHOLD with hle | hgt
  · rw [zeroCountNext_of_le hle]
    omega
  · rw [zeroCountNext_of_saturated hgt]
    omega

/-- The sample reads the same after an operation that does not write it. -/
theorem effect_effectiveSample {i : Instr} {s : State} (hm : i ≠ .measure) (hr : i ≠ .reset) :
    (effect i s).effectiveSample = s.effectiveSample := by
  obtain ⟨hvalue, hvalid⟩ := effect_sample (s := s) hm hr
  rw [State.effectiveSample, hvalue, hvalid]
  rfl

theorem execTimes_succ {i : Instr} {s : State} (n : Nat) (hw : s.cfg.wf = true) :
    execTimes i (n + 1) s = execTimes i n (effect i s) := by
  rw [execTimes, exec_of_wf i hw]

/-- `m` zeros take the counter up by `m`, and no further than N + 1. -/
theorem execTimes_zrun {s : State} (m : Nat) (hw : s.cfg.wf = true) (hzero : s.effectiveSample = 0)
    (hle : s.zr_count ≤ (s.cfg.ZERO_RUN_THRESHOLD : Int) + 1) :
    ∃ t, execTimes .zrun m s = .next t ∧ t.zr_count = min (s.zr_count + m) (s.cfg.ZERO_RUN_THRESHOLD + 1) ∧
      t.effectiveSample = 0 ∧ t.cfg = s.cfg := by
  induction m generalizing s with
  | zero => exact ⟨s, rfl, by simp [hle], hzero, rfl⟩
  | succ m ih =>
    have hnext : (effect .zrun s).zr_count = min (s.zr_count + 1) (s.cfg.ZERO_RUN_THRESHOLD + 1) := by
      rw [effect_zrun_zr_count, hzero, zeroCountNext_zero hle]
    have hcfg := effect_cfg .zrun s
    have hle' : (effect .zrun s).zr_count ≤ ((effect .zrun s).cfg.ZERO_RUN_THRESHOLD : Int) + 1 := by
      rw [hnext, hcfg]
      exact Int.min_le_right _ _
    have hzero' : (effect .zrun s).effectiveSample = 0 := (effect_effectiveSample (i := .zrun) nofun nofun).trans hzero
    obtain ⟨t, hrun, hcount, hsample, hcfg'⟩ := ih (hcfg ▸ hw) hzero' hle'
    refine ⟨t, (execTimes_succ m hw).trans hrun, ?_, hsample, hcfg'.trans hcfg⟩
    rw [hcount, hnext, hcfg]
    push_cast
    omega

/-- With the latch consumed before it, ZRUN leaves it full exactly on the firing zero (R150). -/
theorem effect_zrun_force_pending_iff {s : State} (h : s.force_pending = false) : (effect .zrun s).force_pending = true ↔
    s.effectiveSample = 0 ∧ s.zr_count = s.cfg.ZERO_RUN_THRESHOLD := by
  by_cases hfires : s.effectiveSample = 0 ∧ s.zr_count = s.cfg.ZERO_RUN_THRESHOLD
  · rw [effect_zrun_of_fires hfires.1 hfires.2]
    exact ⟨fun _ => hfires, fun _ => rfl⟩
  · rw [effect_zrun_of_not_fires hfires]
    simp [h, hfires]

/-- Settles O29: after m zeros the counter is at N exactly when `B + m = N`, which is when the next zero fires. -/
theorem zerosNeededToFire : Obligations.ZerosNeededToFire := by
  intro s m hw hbase hzero
  have hneg := Config.baseline_neg hw
  obtain ⟨t, hrun, hcount, hsample, hcfg⟩ := execTimes_zrun m hw hzero (by omega)
  rw [hbase] at hcount
  have hw' : (t.setForce false).cfg.wf = true := hcfg ▸ hw
  have hsample' : (t.setForce false).effectiveSample = 0 := hsample
  refine ⟨t, hrun, hcount, effect .zrun (t.setForce false), exec_of_wf .zrun hw', ?_⟩
  rw [effect_zrun_force_pending_iff rfl, State.setForce_zr_count, State.setForce_cfg, hcount, hcfg]
  simp only [hsample', true_and]
  omega

end Sys2Proof.Machine
end

section
/-! PROOFS. Ramp Generator (43_ramp.md R175, R176, R179, R180, 70_reset_and_hazards.md R337): RETARGET forgets the old ramp, and
what a ramp does over its ticks. -/

namespace Sys2Proof.Machine

/-- RETARGET writes the six ramp registers from the setup, the target and the time (R170). -/
theorem effect_retarget_ramp (s : State) : (effect .retarget s).cur = (rampSetup s).cur ∧
    (effect .retarget s).tgt = newTarget s ∧ (effect .retarget s).start_duty = (rampSetup s).start_duty ∧
    (effect .retarget s).start_time = s.t_c ∧ (effect .retarget s).duration = (rampSetup s).duration ∧
    (effect .retarget s).kind = (rampSetup s).kind :=
  ⟨rfl, rfl, rfl, rfl, rfl, rfl⟩

/-- The setup depends on the configuration, the driven duty and the emitted mean alone (R175). -/
theorem rampSetup_congr {s s' : State} (hcfg : s'.cfg = s.cfg) (hcur : s'.cur = s.cur) (htgt : s'.tgt_value = s.tgt_value) :
    newTarget s' = newTarget s ∧ rampSetup s' = rampSetup s := by
  have hnew : newTarget s' = newTarget s := by rw [newTarget_eq, newTarget_eq, hcfg, htgt]
  exact ⟨hnew, by rw [rampSetup, rampSetup, hnew, hcfg, hcur]⟩

/-- Settles O36: what RETARGET writes reads no ramp register but the driven duty. -/
theorem retargetForgetsTheOldRamp : Obligations.RetargetForgetsTheOldRamp := by
  intro s s' hw hcfg hcur htgt htime
  have hw' : s'.cfg.wf = true := hcfg ▸ hw
  obtain ⟨hnew, hsetup⟩ := rampSetup_congr hcfg hcur htgt
  refine ⟨effect .retarget s, effect .retarget s', exec_of_wf .retarget hw, exec_of_wf .retarget hw', ?_⟩
  simp only [effect_retarget_ramp, hnew, hsetup, htime, and_self]

/-- The setup drives the duty it starts from, and a ramp it sets up has some length (R174). -/
theorem rampSetup_start (s : State) :
    (rampSetup s).cur = (rampSetup s).start_duty ∧ ((rampSetup s).kind ≠ .none → 0 < (rampSetup s).duration) := by
  rcases rampSetup_cases s with hr | ⟨-, -, hpos, hr⟩ | ⟨-, -, hpos, hr⟩ | ⟨-, -, hpos, hr⟩ <;> rw [hr]
  · exact ⟨rfl, fun h => absurd rfl h⟩
  all_goals exact ⟨rfl, fun _ => hpos⟩

theorem elapsed_of_start_now {s : State} (h : s.start_time = s.t_c) : elapsed s = 0 := by rw [elapsed, h, modSub_self]

/-- A ramp's tick at elapsed 0 leaves it at its start (R176). -/
theorem effect_rtick_at_start {s : State} (htime : s.start_time = s.t_c) (hstart : s.cur = s.start_duty)
    (hlen : s.kind ≠ .none → 0 < s.duration) : (effect .rtick s).cur = s.cur ∧ (effect .rtick s).kind = s.kind := by
  by_cases hk : s.kind = .none
  · rw [effect_rtick_idle hk]
    exact ⟨rfl, rfl⟩
  · have helapsed := elapsed_of_start_now htime
    rw [effect_rtick_of_running hk (helapsed ▸ hlen hk), helapsed, lerp_zero]
    exact ⟨hstart.symm, rfl⟩

/-- Settles O41: RETARGET leaves the duty at the ramp's start and the start at this cycle's time. -/
theorem newRampIsTickedAtElapsedZero : Obligations.NewRampIsTickedAtElapsedZero := by
  intro s hw
  obtain ⟨hcur, -, hstart, htime, hdur, hkind⟩ := effect_retarget_ramp s
  obtain ⟨hsetup, hlen⟩ := rampSetup_start s
  have hat : (effect .retarget s).cur = (effect .retarget s).start_duty := hcur.trans (hsetup.trans hstart.symm)
  obtain ⟨hcur', hkind'⟩ := effect_rtick_at_start htime hat (hkind ▸ hdur ▸ hlen)
  have hw' : (effect .retarget s).cfg.wf = true := hw
  exact ⟨_, _, exec_of_wf .retarget hw, exec_of_wf .rtick hw', hcur', hcur'.trans hat, hkind'⟩

/-- Settles O40: the change is a jump, and an idle ramp's tick leaves it there. -/
theorem ignoreRangeReachedInOneTick : Obligations.IgnoreRangeReachedInOneTick := by
  intro s T hw hT hwithin
  have hjump := exec_retarget_of_jump hw hT (classify_of_within_ignore_range hwithin)
  generalize hu : (s.clearEmission.setRamp T s.t_c (jumpTo T)).setPhase .rtick = u at hjump
  have hidle : u.kind = .none := hu ▸ rfl
  have hw' : u.cfg.wf = true := hu ▸ hw
  refine ⟨u.setPhase .outwr, ?_, hu ▸ rfl, hu ▸ rfl, hidle⟩
  simp only [execList, hjump, exec_of_wf .rtick hw', effect_rtick_idle hidle]

/-- At the end of its time the interpolation is at its target. -/
theorem lerp_end (a b : Nat) {d : Nat} (hd : 0 < d) : lerp a b d d = b := by
  have hd' : (d : Int) ≠ 0 := by exact_mod_cast hd.ne'
  rw [lerp, trunc0, Int.mul_tdiv_cancel _ hd', add_sub_cancel, Int.toNat_natCast]

/-- The tick of a ramp interpolates up to the end of the ramp's time and holds from there (R176). -/
theorem effect_rtick_cur {s : State} (hk : s.kind ≠ .none) (hd : 0 < s.duration) :
    (effect .rtick s).cur = lerp s.start_duty s.tgt (min (elapsed s) s.duration) s.duration := by
  rcases Nat.lt_or_ge (elapsed s) s.duration with hrun | hover
  · rw [effect_rtick_of_running hk hrun, Nat.min_eq_left hrun.le]
    rfl
  · rw [effect_rtick_of_complete hk hover, Nat.min_eq_right hover, lerp_end _ _ hd]
    rfl

/-- A rising interpolation goes up from its start to its target (R179). -/
theorem lerp_rising_mono {a b e e' d : Nat} (h : a ≤ b) (he : e ≤ e') (hd : e' ≤ d) :
    a ≤ lerp a b e d ∧ lerp a b e d ≤ lerp a b e' d ∧ lerp a b e' d ≤ b := by
  have hlow := (lerp_between a b (he.trans hd)).1
  have hhigh := (lerp_between a b hd).2
  rw [Nat.min_eq_left h] at hlow
  rw [Nat.max_eq_right h] at hhigh
  refine ⟨hlow, ?_, hhigh⟩
  rw [lerp_rising _ _ h, lerp_rising _ _ h]
  exact Nat.add_le_add_left (share_mono _ _ he) a

/-- A falling interpolation goes down from its start to its target (R179). -/
theorem lerp_falling_mono {a b e e' d : Nat} (h : b ≤ a) (he : e ≤ e') (hd : e' ≤ d) :
    b ≤ lerp a b e' d ∧ lerp a b e' d ≤ lerp a b e d ∧ lerp a b e d ≤ a := by
  have hlow := (lerp_between a b hd).1
  have hhigh := (lerp_between a b (he.trans hd)).2
  rw [Nat.min_eq_right h] at hlow
  rw [Nat.max_eq_left h] at hhigh
  refine ⟨hlow, ?_, hhigh⟩
  rw [lerp_falling h hd, lerp_falling h (he.trans hd)]
  exact Nat.sub_le_sub_left (share_mono _ _ he) a

/-- Settles O38: both duties are one interpolation, at two times in order. -/
theorem rampIsMonotoneAndExact : Obligations.RampIsMonotoneAndExact := by
  intro s now1 now2 hw hk hd _ _ hle
  have hcur1 := effect_rtick_cur (s := { s with t_c := now1 }) hk hd
  have hcur2 := effect_rtick_cur (s := { s with t_c := now2 }) hk hd
  have he : min (modSub now1 s.start_time s.cfg.TIME_WIDTH) s.duration ≤
      min (modSub now2 s.start_time s.cfg.TIME_WIDTH) s.duration := min_le_min_right _ hle
  refine ⟨_, _, exec_of_wf (s := { s with t_c := now1 }) .rtick hw, exec_of_wf (s := { s with t_c := now2 }) .rtick hw,
    fun hup => ?rising, fun hdown => ?falling, fun hover => ?complete⟩
  case rising =>
    rw [hcur1, hcur2]
    exact lerp_rising_mono hup he (min_le_right _ _)
  case falling =>
    rw [hcur1, hcur2]
    exact lerp_falling_mono hdown he (min_le_right _ _)
  case complete =>
    rw [effect_rtick_of_complete (s := { s with t_c := now2 }) hk hover]
    exact ⟨rfl, rfl⟩

/-- The elapsed time of a ramp whose start is the image of a time not too long ago is the true one (R337). -/
theorem elapsed_eq_sub {s : State} {τ_start : Nat} (htime : TimeInv s) (hstart : s.start_time = nowAt s.cfg τ_start)
    (hle : τ_start ≤ s.tau) (hlt : s.tau - τ_start < 2 ^ s.cfg.TIME_WIDTH) : elapsed s = s.tau - τ_start := by
  rw [elapsed, hstart, show s.t_c = nowAt s.cfg s.tau from htime]
  exact modSub_mod hle hlt

/-- Settles O39: the tick compares the true elapsed time with the duration. -/
theorem rampTimingSurvivesWrap : Obligations.RampTimingSurvivesWrap := by
  intro s τ_start hw htime hk _ hstart hle hlt
  have helapsed := elapsed_eq_sub htime hstart hle hlt
  refine ⟨effect .rtick s, exec_of_wf .rtick hw, ?_⟩
  rw [← helapsed]
  rcases Nat.lt_or_ge (elapsed s) s.duration with hrun | hover
  · rw [effect_rtick_of_running hk hrun]
    exact ⟨iff_of_false hk (not_le.2 hrun), fun hover => absurd hover (not_le.2 hrun)⟩
  · rw [effect_rtick_of_complete hk hover]
    exact ⟨iff_of_true rfl hover, fun _ => rfl⟩

end Sys2Proof.Machine
end

section
/-! PROOFS. The control cycle (46_sequencer.md R252, 60_exceptions.md R301, R304): the three operation strings of a cycle, the
force that wins over a closing window, and the loss of the input signal. -/

namespace Sys2Proof.Machine

/-- What none of a run's operations writes, the run leaves as it was. -/
theorem Follows_preserves {α : Type} (f : State → α) {ops : List Instr} {s t : State} (h : Follows ops s t)
    (hf : ∀ i ∈ ops, ∀ u, f (effect i u) = f u) : f t = f s := by
  induction h with
  | nil s => rfl
  | @cons i rest s t _ _ ih =>
    rw [ih fun j hj => hf j (List.mem_cons_of_mem i hj), hf i List.mem_cons_self]

theorem zr_count_of_follows {ops : List Instr} {s t : State} (h : Follows ops s t) (hz : .zrun ∉ ops) (hr : .reset ∉ ops) :
    t.zr_count = s.zr_count :=
  Follows_preserves State.zr_count h fun _ hi _ => effect_zr_count (ne_of_mem_of_not_mem hi hz) (ne_of_mem_of_not_mem hi hr)

theorem tau_of_follows {ops : List Instr} {s t : State} (h : Follows ops s t) (hm : .measure ∉ ops) (hr : .reset ∉ ops) :
    t.tau = s.tau :=
  Follows_preserves State.tau h fun _ hi _ => (effect_time (ne_of_mem_of_not_mem hi hm) (ne_of_mem_of_not_mem hi hr)).1

/-- The end of every cycle, from its tick on: the output carries the driven duty, and the next phase is MEASURE. -/
theorem follows_finish {s : State} (hp : s.phase = encode .rtick) :
    Follows [.rtick, .outwr] s (effect .outwr (effect .rtick s)) :=
  .cons hp (.cons (effect_rtick_phase s) (.nil _))

/-- From ZRUN on, a cycle whose zero fires (R252). -/
theorem follows_zrun_of_fires {s : State} (hp : s.phase = encode .zrun) (hzero : s.effectiveSample = 0)
    (hN : s.zr_count = s.cfg.ZERO_RUN_THRESHOLD) : Follows [.zrun, .force0, .rtick, .outwr] s
      (effect .outwr (effect .rtick (effect .force0 (effect .zrun s)))) := by
  have hforce : (effect .zrun s).phase = encode .force0 := by
    rw [effect_zrun_of_fires hzero hN]
    rfl
  exact .cons hp (.cons hforce (follows_finish (effect_force0_phase _)))

/-- From ACCUM on, a cycle goes through RETARGET or not, by whether the window closes (R252). -/
theorem exists_follows_accum {s : State} (hp : s.phase = encode .accum) : ∃ ops u,
    (ops = [.accum, .rtick, .outwr] ∨ ops = [.accum, .retarget, .rtick, .outwr]) ∧ Follows ops s (effect .outwr u) := by
  by_cases hfull : s.avg_count + 1 = s.cfg.W
  · have hretarget : (effect .accum s).phase = encode .retarget := by
      rw [effect_accum_of_full hfull]
      rfl
    exact ⟨_, _, .inr rfl, .cons hp (.cons hretarget (follows_finish (effect_retarget_phase _)))⟩
  · have hrtick : (effect .accum s).phase = encode .rtick := by
      rw [effect_accum_of_filling hfull]
      rfl
    exact ⟨_, _, .inl rfl, .cons hp (follows_finish hrtick)⟩

/-- What a firing zero leaves at the end of its cycle: duty 0 driven, an empty window, and the emission latch as it was. -/
theorem force_cycle_end (s : State) :
    let t := effect .outwr (effect .rtick (effect .force0 (effect .zrun s)))
    t.cur = 0 ∧ t.pwm_out = outputValue s.cfg 0 ∧ t.avg_sum = 0 ∧ t.avg_count = 0 ∧ t.tgt_pending = s.tgt_pending ∧
      t.tgt_value = s.tgt_value := by
  obtain ⟨hcur, -, hkind, hsum, hcount, -, hpending, hvalue⟩ := effect_force0 (s := effect .zrun s)
  obtain ⟨hpending', hvalue'⟩ := effect_emission (i := .zrun) (s := s) nofun nofun nofun
  rw [effect_rtick_idle hkind, effect_outwr_eq]
  simp [hcur, hsum, hcount, hpending, hvalue, hpending', hvalue']

/-- Settles O31: the firing ZRUN goes to FORCE0 and not to ACCUM, so the emission latch, empty before it, stays empty. -/
theorem forceWinsOverClosingWindow : Obligations.ForceWinsOverClosingWindow := by
  intro s hinv hs hp hzero hN _ hz
  have ⟨hw, _, _, _, _, _, _, _, hseq⟩ := hinv
  obtain ⟨hrun, hwords, -⟩ := Follows_run (follows_zrun_of_fires hp hzero hN) hw hs
  obtain ⟨-, hout, hsum, hcount, hpending, hvalue⟩ := force_cycle_end s
  exact ⟨_, hrun, hwords, hpending.trans (tgt_pending_eq_false hseq hp nofun), hvalue, hsum, hcount,
    hout.trans (outputValue_zero hz)⟩

/-- The first two operations of a cycle lead to ZRUN, with the measured sample and the counter as it was. -/
theorem before_zrun (s : State) : (effect .dirupd (effect .measure s)).phase = encode .zrun ∧
    (effect .dirupd (effect .measure s)).effectiveSample = (effect .measure s).effectiveSample ∧
    (effect .dirupd (effect .measure s)).zr_count = s.zr_count ∧ (effect .dirupd (effect .measure s)).cfg = s.cfg := by
  refine ⟨effect_dirupd_phase _, effect_effectiveSample (i := .dirupd) nofun nofun, ?_, by simp⟩
  rw [effect_zr_count (i := .dirupd) nofun nofun, effect_zr_count (i := .measure) nofun nofun]

theorem follows_measure_dirupd {s t : State} {ops : List Instr} (hp : s.phase = encode .measure)
    (h : Follows ops (effect .dirupd (effect .measure s)) t) : Follows (.measure :: .dirupd :: ops) s t :=
  .cons hp (.cons (effect_measure_phase s) h)

/-- A cycle whose zero fires runs the force string (R252) and ends with duty 0 driven. -/
theorem exists_follows_force_cycle {s : State} (hp : s.phase = encode .measure)
    (hzero : (effect .measure s).effectiveSample = 0) (hN : s.zr_count = s.cfg.ZERO_RUN_THRESHOLD) :
    ∃ u, Follows (cycleOps .force) s (effect .outwr u) ∧ (effect .outwr u).cur = 0 := by
  obtain ⟨hzrun, hsample, hcount, hcfg⟩ := before_zrun s
  have hN' : (effect .dirupd (effect .measure s)).zr_count =
      (effect .dirupd (effect .measure s)).cfg.ZERO_RUN_THRESHOLD := by rw [hcount, hcfg, hN]
  exact ⟨_, follows_measure_dirupd hp (follows_zrun_of_fires hzrun (hsample.trans hzero) hN'), (force_cycle_end _).1⟩

/-- Any other cycle runs the plain string or the one with an emission (R252), and its ZRUN is all that moves the counter. -/
theorem exists_follows_other_cycle {s : State} (hp : s.phase = encode .measure)
    (h : ¬((effect .measure s).effectiveSample = 0 ∧ s.zr_count = s.cfg.ZERO_RUN_THRESHOLD)) :
    ∃ k u, Follows (cycleOps k) s (effect .outwr u) ∧
      (effect .outwr u).zr_count = zeroCountNext s.cfg (effect .measure s).effectiveSample s.zr_count := by
  obtain ⟨hzrun, hsample, hcount, hcfg⟩ := before_zrun s
  have hnext := effect_zrun_zr_count (s := effect .dirupd (effect .measure s))
  rw [hsample, hcount, hcfg] at hnext
  have haccum : (effect .zrun (effect .dirupd (effect .measure s))).phase = encode .accum := by
    rw [effect_zrun_of_not_fires (by rwa [hsample, hcount, hcfg])]
    rfl
  obtain ⟨ops, u, hops, hrest⟩ := exists_follows_accum haccum
  have hcycle := follows_measure_dirupd hp (.cons hzrun hrest)
  rcases hops with rfl | rfl
  · exact ⟨.plain, u, hcycle, (zr_count_of_follows hrest (by decide) (by decide)).trans hnext⟩
  · exact ⟨.emission, u, hcycle, (zr_count_of_follows hrest (by decide) (by decide)).trans hnext⟩

/-- Every cycle runs one of the three strings (R252). -/
theorem exists_follows_cycle {s : State} (hp : s.phase = encode .measure) :
    ∃ k u, Follows (cycleOps k) s (effect .outwr u) := by
  by_cases hfires : (effect .measure s).effectiveSample = 0 ∧ s.zr_count = s.cfg.ZERO_RUN_THRESHOLD
  · obtain ⟨u, h, -⟩ := exists_follows_force_cycle hp hfires.1 hfires.2
    exact ⟨.force, u, h⟩
  · obtain ⟨k, u, h, -⟩ := exists_follows_other_cycle hp hfires
    exact ⟨k, u, h⟩

/-- A cycle takes the time of its MEASURE (R340). -/
theorem tau_of_follows_cycle {k : CycleCase} {s t : State} (h : Follows (cycleOps k) s t) :
    t.tau = (effect .measure s).tau := by
  have hsplit : ∃ rest, cycleOps k = .measure :: rest ∧ .measure ∉ rest ∧ .reset ∉ rest := by
    cases k <;> exact ⟨_, rfl, by decide, by decide⟩
  obtain ⟨rest, hk, hm, hr⟩ := hsplit
  rw [hk] at h
  cases h with
  | cons _ hrest => exact tau_of_follows hrest hm hr

/-- Settles O53: the cycle's operations follow one another, the last is OUTWR, and MEASURE alone takes time. -/
theorem controlCycleIsOneOfThreeStrings : Obligations.ControlCycleIsOneOfThreeStrings := by
  intro s hw hs hp
  obtain ⟨k, u, hcycle⟩ := exists_follows_cycle hp
  obtain ⟨hrun, hwords, hs', -, -⟩ := Follows_run hcycle hw hs
  obtain ⟨hstart, hend⟩ := effect_measure_tau_bounds hw
  rw [← tau_of_follows_cycle hcycle] at hstart hend
  exact ⟨k, effect .outwr u, hrun, hwords, effect_outwr_phase u, hs', hstart, hend, effect_outwr_driven⟩

/-- On a line with no edge left MEASURE reads 0 and takes the whole window (R104). -/
theorem effect_measure_of_silence {s : State} (h : ∀ e, s.env.pwm.hasEdge e = true → e ≤ s.tau) :
    (effect .measure s).effectiveSample = 0 ∧ (effect .measure s).tau = s.tau + s.cfg.TIMEOUT_US := by
  have hsteady : ∀ e, s.env.pwm.hasEdge e = true → s.tau < e → s.tau + s.cfg.TIMEOUT_US < e :=
    fun e he hlt => absurd (h e he) (not_le.2 hlt)
  rw [effect_measure_of_no_pair (not_qualifyingPair_of_steady hsteady)]
  exact ⟨rfl, rfl⟩

theorem cycleOps_length_le (k : CycleCase) : (cycleOps k).length ≤ 7 := by cases k <;> decide

/-- On a line with no edge left and a counter `m` short of N, the `m + 1`-th cycle drives 0, by induction on `m`: a cycle whose
zero does not fire leaves the same situation with the counter one further. -/
theorem run_of_silence {m : Nat} {s : State} (hw : s.cfg.wf = true) (hs : s.stream = []) (hp : s.phase = encode .measure)
    (hz : zeroDrivesZero s.cfg) (hsilent : ∀ e, s.env.pwm.hasEdge e = true → e ≤ s.tau)
    (hcount : s.zr_count + m = s.cfg.ZERO_RUN_THRESHOLD) : ∃ (n : Nat) (t : State), n ≤ 7 * (m + 1) ∧
      Host.Core.run Sys2Proof.core n s = .next t ∧ t.phase = encode .measure ∧ t.cur = 0 ∧ t.pwm_out = 0 ∧
      t.tau = s.tau + (m + 1) * s.cfg.TIMEOUT_US := by
  obtain ⟨hzero, htau⟩ := effect_measure_of_silence hsilent
  induction m generalizing s with
  | zero =>
    obtain ⟨u, hcycle, hcur⟩ := exists_follows_force_cycle hp hzero (by simpa using hcount)
    obtain ⟨hrun, -, -, hcfg, -⟩ := Follows_run hcycle hw hs
    refine ⟨_, _, cycleOps_length_le .force, hrun, effect_outwr_phase u, hcur, ?_, ?_⟩
    · rw [effect_outwr_driven, hcur, hcfg, outputValue_zero hz]
    · rw [tau_of_follows_cycle hcycle, htau, Nat.zero_add, Nat.one_mul]
  | succ m ih =>
    push_cast at hcount
    obtain ⟨k, u, hcycle, hnext⟩ := exists_follows_other_cycle hp fun h => by omega
    obtain ⟨hrun, -, hs', hcfg, henv⟩ := Follows_run hcycle hw hs
    have htau' := (tau_of_follows_cycle hcycle).trans htau
    rw [hzero, zeroCountNext_of_le (by omega)] at hnext
    have hsilent' : ∀ e, (effect .outwr u).env.pwm.hasEdge e = true → e ≤ (effect .outwr u).tau := by
      rw [henv, htau']
      exact fun e he => (hsilent e he).trans (Nat.le_add_right _ _)
    obtain ⟨hzero', htau''⟩ := effect_measure_of_silence hsilent'
    obtain ⟨n, t, hn, hrun', hp', hcur, hout, ht⟩ := ih (hcfg ▸ hw) hs' (effect_outwr_phase u) (hcfg ▸ hz) hsilent'
      (by rw [hnext, hcfg]; omega) hzero' htau''
    refine ⟨(cycleOps k).length + n, t, ?_, (run_add (M := Sys2Proof.core) hrun).trans hrun', hp', hcur, hout, ?_⟩
    · have := cycleOps_length_le k
      omega
    · rw [ht, htau', hcfg]
      ring

/-- Settles O55: the counter is `N - zr_count` short of N. -/
theorem signalLossForcesOutputToZero : Obligations.SignalLossForcesOutputToZero := by
  intro s hinv hs hp hz hsilent hle
  obtain ⟨m, hm⟩ := Int.le.dest hle
  obtain ⟨n, t, hn, hrun, hp', hcur, hout, htau⟩ := run_of_silence hinv.1 hs hp hz hsilent hm
  have hshort : (s.cfg.ZERO_RUN_THRESHOLD : Int) - s.zr_count = m := by omega
  rw [hshort]
  exact ⟨n, t, by exact_mod_cast hn, hrun, hp', hcur, hout, by exact_mod_cast htau⟩

end Sys2Proof.Machine
end
